-- ==== Sys2Proof/Word.lean ====
section
/-! DEFINITION. The two widths of the machine (spec/00_scope.md R5, R7): bytes and 16-bit words. -/

namespace Sys2Proof

/-- A value of type `u8` (R7): a register, a memory byte, a byte of an instruction. -/
abbrev Byte := BitVec 8

/-- A value of type `u16` (R7): SP, PC, a pair view, an address. -/
abbrev Word := BitVec 16

end Sys2Proof
end

