-- ==== Sys2Proof/Syntax.lean ====
section
/-! DEFINITION. The instructions: one constructor of `Instr` per row of spec/opcode_table.json, its operands being the
immediates of the row's format (spec/30_encoding.md R100, R105), and the operand names the rules use. -/

namespace Sys2Proof

/-- The byte registers `r` (spec/00_scope.md R8, spec/30_encoding.md R102; F is not among them). -/
inductive Reg8 where
  | b | c | d | e | h | l | a
deriving DecidableEq, Repr

/-- The 16-bit registers `rr` of LD rr,nn, INC rr, DEC rr and ADD HL,rr (R103). -/
inductive Reg16 where
  | bc | de | hl | sp
deriving DecidableEq, Repr

/-- The pairs of PUSH and POP (R103). -/
inductive StackPair where
  | bc | de | hl | af
deriving DecidableEq, Repr

/-- The conditions `cc` (R106, spec/45_control.md R260). -/
inductive Cond where
  | nz | z | nc | c
deriving DecidableEq, Repr

/-- The 8-bit ALU operations `ooo` (spec/42_alu8.md R190). -/
inductive AluOp where
  | add | adc | sub | sbc | and | xor | or | cp
deriving DecidableEq, Repr

/-- The second operand `x` of an 8-bit ALU instruction (R190). -/
inductive Source8 where
  | reg (r : Reg8)
  | atHL
  | imm (n : Byte)
deriving DecidableEq, Repr

/-- The target of a CB instruction (spec/44_rotate_shift_bit.md R234). -/
inductive Target8 where
  | reg (r : Reg8)
  | atHL
deriving DecidableEq, Repr

/-- The rotates and shifts of the CB map (R235 to R242). -/
inductive RotOp where
  | rlc | rrc | rl | rr | sla | sra | swap | srl
deriving DecidableEq, Repr

/-- The unprefixed rotates on A (R230 to R233). -/
inductive AccRotOp where
  | rlca | rrca | rla | rra
deriving DecidableEq, Repr

/-- The instruction FORMS, one per instruction rule R140 to R288 (and R300): an instruction of the table with its
register, condition or bit number read off as an operand. `Instr.form` (Decode.lean) gives the form of each row. -/
inductive Form where
  /-- LD r,r' (R140) -/
  | ldRR (dst src : Reg8)
  /-- LD r,n (R141) -/
  | ldRN (dst : Reg8) (n : Byte)
  /-- LD r,(HL) (R142) -/
  | ldRAtHL (dst : Reg8)
  /-- LD (HL),r (R143) -/
  | ldAtHLR (src : Reg8)
  /-- LD (HL),n (R144) -/
  | ldAtHLN (n : Byte)
  /-- LD A,(BC) (R145) -/
  | ldAAtBC
  /-- LD A,(DE) (R146) -/
  | ldAAtDE
  /-- LD A,(nn) (R147) -/
  | ldAAtNN (nn : Word)
  /-- LD (BC),A (R148) -/
  | ldAtBCA
  /-- LD (DE),A (R149) -/
  | ldAtDEA
  /-- LD (nn),A (R150) -/
  | ldAtNNA (nn : Word)
  /-- LD A,(HL+) (R151) -/
  | ldAAtHLInc
  /-- LD A,(HL-) (R152) -/
  | ldAAtHLDec
  /-- LD (HL+),A (R153) -/
  | ldAtHLIncA
  /-- LD (HL-),A (R154) -/
  | ldAtHLDecA
  /-- LDH A,(n) (R155) -/
  | ldhAAtN (n : Byte)
  /-- LDH (n),A (R156) -/
  | ldhAtNA (n : Byte)
  /-- LDH A,(C) (R157) -/
  | ldhAAtC
  /-- LDH (C),A (R158) -/
  | ldhAtCA
  /-- LD rr,nn (R171) -/
  | ldRRNN (rr : Reg16) (nn : Word)
  /-- LD (nn),SP (R172) -/
  | ldAtNNSP (nn : Word)
  /-- LD SP,HL (R173) -/
  | ldSPHL
  /-- LD HL,SP+e (R174) -/
  | ldHLSPE (e : Byte)
  /-- PUSH rr (R175) -/
  | push (p : StackPair)
  /-- POP rr (R176) -/
  | pop (p : StackPair)
  /-- ADD, ADC, SUB, SBC, AND, XOR, OR, CP A,x (R193 to R200) -/
  | alu (op : AluOp) (x : Source8)
  /-- INC r (R201) -/
  | incR (r : Reg8)
  /-- INC (HL) (R202) -/
  | incAtHL
  /-- DEC r (R203) -/
  | decR (r : Reg8)
  /-- DEC (HL) (R204) -/
  | decAtHL
  /-- INC rr (R220) -/
  | incRR (rr : Reg16)
  /-- DEC rr (R221) -/
  | decRR (rr : Reg16)
  /-- ADD HL,rr (R222) -/
  | addHLRR (rr : Reg16)
  /-- ADD SP,e (R223) -/
  | addSPE (e : Byte)
  /-- RLCA, RRCA, RLA, RRA (R230 to R233) -/
  | rotA (op : AccRotOp)
  /-- RLC, RRC, RL, RR, SLA, SRA, SWAP, SRL (R235 to R242) -/
  | rot (op : RotOp) (x : Target8)
  /-- BIT b,x (R243) -/
  | bit (n : Fin 8) (x : Target8)
  /-- RES b,x (R244) -/
  | res (n : Fin 8) (x : Target8)
  /-- SET b,x (R245) -/
  | set (n : Fin 8) (x : Target8)
  /-- JR e (R261) -/
  | jr (e : Byte)
  /-- JR cc,e (R262) -/
  | jrCc (cc : Cond) (e : Byte)
  /-- JP nn (R263) -/
  | jp (nn : Word)
  /-- JP cc,nn (R264) -/
  | jpCc (cc : Cond) (nn : Word)
  /-- JP HL (R265) -/
  | jpHL
  /-- CALL nn (R266) -/
  | call (nn : Word)
  /-- CALL cc,nn (R267) -/
  | callCc (cc : Cond) (nn : Word)
  /-- RET (R268) -/
  | ret
  /-- RET cc (R269) -/
  | retCc (cc : Cond)
  /-- RETI (R270) -/
  | reti
  /-- RST t, t = 8 * y (R271) -/
  | rst (y : Fin 8)
  /-- NOP (R280) -/
  | nop
  /-- DAA (R281) -/
  | daa
  /-- CPL (R282) -/
  | cpl
  /-- SCF (R283) -/
  | scf
  /-- CCF (R284) -/
  | ccf
  /-- DI (R285) -/
  | di
  /-- EI (R286) -/
  | ei
  /-- HALT (R287) -/
  | halt
  /-- STOP (R288) -/
  | stop
  /-- an illegal byte (R109, R300) -/
  | illegal (b : Byte)
deriving DecidableEq, Repr

/-- The 511 rows of spec/opcode_table.json: 244 primary instructions, 11 illegal bytes and 256 CB instructions, in the
table's order but for the rows with an immediate, which stand first (Lean's runtime wants small tags for them). `atHL` is the operand (HL), `atHLInc` and `atHLDec` are (HL+) and (HL-), `atN`, `atNN` and
`atC` are (n), (nn) and (C), `spPlusE` is SP+e; the number after `rst` and `illegal` is hexadecimal. -/
inductive Instr where
  | ld_bc_nn (nn : Word) -- LD BC,nn, 0x01, R171
  | ld_b_n (n : Byte) -- LD B,n, 0x06, R141
  | ld_atNN_sp (nn : Word) -- LD (nn),SP, 0x08, R172
  | ld_c_n (n : Byte) -- LD C,n, 0x0E, R141
  | ld_de_nn (nn : Word) -- LD DE,nn, 0x11, R171
  | ld_d_n (n : Byte) -- LD D,n, 0x16, R141
  | jr_e (e : Byte) -- JR e, 0x18, R261
  | ld_e_n (n : Byte) -- LD E,n, 0x1E, R141
  | jr_nz_e (e : Byte) -- JR NZ,e, 0x20, R262
  | ld_hl_nn (nn : Word) -- LD HL,nn, 0x21, R171
  | ld_h_n (n : Byte) -- LD H,n, 0x26, R141
  | jr_z_e (e : Byte) -- JR Z,e, 0x28, R262
  | ld_l_n (n : Byte) -- LD L,n, 0x2E, R141
  | jr_nc_e (e : Byte) -- JR NC,e, 0x30, R262
  | ld_sp_nn (nn : Word) -- LD SP,nn, 0x31, R171
  | ld_atHL_n (n : Byte) -- LD (HL),n, 0x36, R144
  | jr_c_e (e : Byte) -- JR C,e, 0x38, R262
  | ld_a_n (n : Byte) -- LD A,n, 0x3E, R141
  | jp_nz_nn (nn : Word) -- JP NZ,nn, 0xC2, R264
  | jp_nn (nn : Word) -- JP nn, 0xC3, R263
  | call_nz_nn (nn : Word) -- CALL NZ,nn, 0xC4, R267
  | add_a_n (n : Byte) -- ADD A,n, 0xC6, R193
  | jp_z_nn (nn : Word) -- JP Z,nn, 0xCA, R264
  | call_z_nn (nn : Word) -- CALL Z,nn, 0xCC, R267
  | call_nn (nn : Word) -- CALL nn, 0xCD, R266
  | adc_a_n (n : Byte) -- ADC A,n, 0xCE, R194
  | jp_nc_nn (nn : Word) -- JP NC,nn, 0xD2, R264
  | call_nc_nn (nn : Word) -- CALL NC,nn, 0xD4, R267
  | sub_a_n (n : Byte) -- SUB A,n, 0xD6, R195
  | jp_c_nn (nn : Word) -- JP C,nn, 0xDA, R264
  | call_c_nn (nn : Word) -- CALL C,nn, 0xDC, R267
  | sbc_a_n (n : Byte) -- SBC A,n, 0xDE, R196
  | ldh_atN_a (n : Byte) -- LDH (n),A, 0xE0, R156
  | and_a_n (n : Byte) -- AND A,n, 0xE6, R197
  | add_sp_e (e : Byte) -- ADD SP,e, 0xE8, R223
  | ld_atNN_a (nn : Word) -- LD (nn),A, 0xEA, R150
  | xor_a_n (n : Byte) -- XOR A,n, 0xEE, R198
  | ldh_a_atN (n : Byte) -- LDH A,(n), 0xF0, R155
  | or_a_n (n : Byte) -- OR A,n, 0xF6, R199
  | ld_hl_spPlusE (e : Byte) -- LD HL,SP+e, 0xF8, R174
  | ld_a_atNN (nn : Word) -- LD A,(nn), 0xFA, R147
  | cp_a_n (n : Byte) -- CP A,n, 0xFE, R200
  | nop -- NOP, 0x00, R280
  | ld_atBC_a -- LD (BC),A, 0x02, R148
  | inc_bc -- INC BC, 0x03, R220
  | inc_b -- INC B, 0x04, R201
  | dec_b -- DEC B, 0x05, R203
  | rlca -- RLCA, 0x07, R230
  | add_hl_bc -- ADD HL,BC, 0x09, R222
  | ld_a_atBC -- LD A,(BC), 0x0A, R145
  | dec_bc -- DEC BC, 0x0B, R221
  | inc_c -- INC C, 0x0C, R201
  | dec_c -- DEC C, 0x0D, R203
  | rrca -- RRCA, 0x0F, R231
  | stop -- STOP, 0x10, R288
  | ld_atDE_a -- LD (DE),A, 0x12, R149
  | inc_de -- INC DE, 0x13, R220
  | inc_d -- INC D, 0x14, R201
  | dec_d -- DEC D, 0x15, R203
  | rla -- RLA, 0x17, R232
  | add_hl_de -- ADD HL,DE, 0x19, R222
  | ld_a_atDE -- LD A,(DE), 0x1A, R146
  | dec_de -- DEC DE, 0x1B, R221
  | inc_e -- INC E, 0x1C, R201
  | dec_e -- DEC E, 0x1D, R203
  | rra -- RRA, 0x1F, R233
  | ld_atHLInc_a -- LD (HL+),A, 0x22, R153
  | inc_hl -- INC HL, 0x23, R220
  | inc_h -- INC H, 0x24, R201
  | dec_h -- DEC H, 0x25, R203
  | daa -- DAA, 0x27, R281
  | add_hl_hl -- ADD HL,HL, 0x29, R222
  | ld_a_atHLInc -- LD A,(HL+), 0x2A, R151
  | dec_hl -- DEC HL, 0x2B, R221
  | inc_l -- INC L, 0x2C, R201
  | dec_l -- DEC L, 0x2D, R203
  | cpl -- CPL, 0x2F, R282
  | ld_atHLDec_a -- LD (HL-),A, 0x32, R154
  | inc_sp -- INC SP, 0x33, R220
  | inc_atHL -- INC (HL), 0x34, R202
  | dec_atHL -- DEC (HL), 0x35, R204
  | scf -- SCF, 0x37, R283
  | add_hl_sp -- ADD HL,SP, 0x39, R222
  | ld_a_atHLDec -- LD A,(HL-), 0x3A, R152
  | dec_sp -- DEC SP, 0x3B, R221
  | inc_a -- INC A, 0x3C, R201
  | dec_a -- DEC A, 0x3D, R203
  | ccf -- CCF, 0x3F, R284
  | ld_b_b -- LD B,B, 0x40, R140
  | ld_b_c -- LD B,C, 0x41, R140
  | ld_b_d -- LD B,D, 0x42, R140
  | ld_b_e -- LD B,E, 0x43, R140
  | ld_b_h -- LD B,H, 0x44, R140
  | ld_b_l -- LD B,L, 0x45, R140
  | ld_b_atHL -- LD B,(HL), 0x46, R142
  | ld_b_a -- LD B,A, 0x47, R140
  | ld_c_b -- LD C,B, 0x48, R140
  | ld_c_c -- LD C,C, 0x49, R140
  | ld_c_d -- LD C,D, 0x4A, R140
  | ld_c_e -- LD C,E, 0x4B, R140
  | ld_c_h -- LD C,H, 0x4C, R140
  | ld_c_l -- LD C,L, 0x4D, R140
  | ld_c_atHL -- LD C,(HL), 0x4E, R142
  | ld_c_a -- LD C,A, 0x4F, R140
  | ld_d_b -- LD D,B, 0x50, R140
  | ld_d_c -- LD D,C, 0x51, R140
  | ld_d_d -- LD D,D, 0x52, R140
  | ld_d_e -- LD D,E, 0x53, R140
  | ld_d_h -- LD D,H, 0x54, R140
  | ld_d_l -- LD D,L, 0x55, R140
  | ld_d_atHL -- LD D,(HL), 0x56, R142
  | ld_d_a -- LD D,A, 0x57, R140
  | ld_e_b -- LD E,B, 0x58, R140
  | ld_e_c -- LD E,C, 0x59, R140
  | ld_e_d -- LD E,D, 0x5A, R140
  | ld_e_e -- LD E,E, 0x5B, R140
  | ld_e_h -- LD E,H, 0x5C, R140
  | ld_e_l -- LD E,L, 0x5D, R140
  | ld_e_atHL -- LD E,(HL), 0x5E, R142
  | ld_e_a -- LD E,A, 0x5F, R140
  | ld_h_b -- LD H,B, 0x60, R140
  | ld_h_c -- LD H,C, 0x61, R140
  | ld_h_d -- LD H,D, 0x62, R140
  | ld_h_e -- LD H,E, 0x63, R140
  | ld_h_h -- LD H,H, 0x64, R140
  | ld_h_l -- LD H,L, 0x65, R140
  | ld_h_atHL -- LD H,(HL), 0x66, R142
  | ld_h_a -- LD H,A, 0x67, R140
  | ld_l_b -- LD L,B, 0x68, R140
  | ld_l_c -- LD L,C, 0x69, R140
  | ld_l_d -- LD L,D, 0x6A, R140
  | ld_l_e -- LD L,E, 0x6B, R140
  | ld_l_h -- LD L,H, 0x6C, R140
  | ld_l_l -- LD L,L, 0x6D, R140
  | ld_l_atHL -- LD L,(HL), 0x6E, R142
  | ld_l_a -- LD L,A, 0x6F, R140
  | ld_atHL_b -- LD (HL),B, 0x70, R143
  | ld_atHL_c -- LD (HL),C, 0x71, R143
  | ld_atHL_d -- LD (HL),D, 0x72, R143
  | ld_atHL_e -- LD (HL),E, 0x73, R143
  | ld_atHL_h -- LD (HL),H, 0x74, R143
  | ld_atHL_l -- LD (HL),L, 0x75, R143
  | halt -- HALT, 0x76, R287
  | ld_atHL_a -- LD (HL),A, 0x77, R143
  | ld_a_b -- LD A,B, 0x78, R140
  | ld_a_c -- LD A,C, 0x79, R140
  | ld_a_d -- LD A,D, 0x7A, R140
  | ld_a_e -- LD A,E, 0x7B, R140
  | ld_a_h -- LD A,H, 0x7C, R140
  | ld_a_l -- LD A,L, 0x7D, R140
  | ld_a_atHL -- LD A,(HL), 0x7E, R142
  | ld_a_a -- LD A,A, 0x7F, R140
  | add_a_b -- ADD A,B, 0x80, R193
  | add_a_c -- ADD A,C, 0x81, R193
  | add_a_d -- ADD A,D, 0x82, R193
  | add_a_e -- ADD A,E, 0x83, R193
  | add_a_h -- ADD A,H, 0x84, R193
  | add_a_l -- ADD A,L, 0x85, R193
  | add_a_atHL -- ADD A,(HL), 0x86, R193
  | add_a_a -- ADD A,A, 0x87, R193
  | adc_a_b -- ADC A,B, 0x88, R194
  | adc_a_c -- ADC A,C, 0x89, R194
  | adc_a_d -- ADC A,D, 0x8A, R194
  | adc_a_e -- ADC A,E, 0x8B, R194
  | adc_a_h -- ADC A,H, 0x8C, R194
  | adc_a_l -- ADC A,L, 0x8D, R194
  | adc_a_atHL -- ADC A,(HL), 0x8E, R194
  | adc_a_a -- ADC A,A, 0x8F, R194
  | sub_a_b -- SUB A,B, 0x90, R195
  | sub_a_c -- SUB A,C, 0x91, R195
  | sub_a_d -- SUB A,D, 0x92, R195
  | sub_a_e -- SUB A,E, 0x93, R195
  | sub_a_h -- SUB A,H, 0x94, R195
  | sub_a_l -- SUB A,L, 0x95, R195
  | sub_a_atHL -- SUB A,(HL), 0x96, R195
  | sub_a_a -- SUB A,A, 0x97, R195
  | sbc_a_b -- SBC A,B, 0x98, R196
  | sbc_a_c -- SBC A,C, 0x99, R196
  | sbc_a_d -- SBC A,D, 0x9A, R196
  | sbc_a_e -- SBC A,E, 0x9B, R196
  | sbc_a_h -- SBC A,H, 0x9C, R196
  | sbc_a_l -- SBC A,L, 0x9D, R196
  | sbc_a_atHL -- SBC A,(HL), 0x9E, R196
  | sbc_a_a -- SBC A,A, 0x9F, R196
  | and_a_b -- AND A,B, 0xA0, R197
  | and_a_c -- AND A,C, 0xA1, R197
  | and_a_d -- AND A,D, 0xA2, R197
  | and_a_e -- AND A,E, 0xA3, R197
  | and_a_h -- AND A,H, 0xA4, R197
  | and_a_l -- AND A,L, 0xA5, R197
  | and_a_atHL -- AND A,(HL), 0xA6, R197
  | and_a_a -- AND A,A, 0xA7, R197
  | xor_a_b -- XOR A,B, 0xA8, R198
  | xor_a_c -- XOR A,C, 0xA9, R198
  | xor_a_d -- XOR A,D, 0xAA, R198
  | xor_a_e -- XOR A,E, 0xAB, R198
  | xor_a_h -- XOR A,H, 0xAC, R198
  | xor_a_l -- XOR A,L, 0xAD, R198
  | xor_a_atHL -- XOR A,(HL), 0xAE, R198
  | xor_a_a -- XOR A,A, 0xAF, R198
  | or_a_b -- OR A,B, 0xB0, R199
  | or_a_c -- OR A,C, 0xB1, R199
  | or_a_d -- OR A,D, 0xB2, R199
  | or_a_e -- OR A,E, 0xB3, R199
  | or_a_h -- OR A,H, 0xB4, R199
  | or_a_l -- OR A,L, 0xB5, R199
  | or_a_atHL -- OR A,(HL), 0xB6, R199
  | or_a_a -- OR A,A, 0xB7, R199
  | cp_a_b -- CP A,B, 0xB8, R200
  | cp_a_c -- CP A,C, 0xB9, R200
  | cp_a_d -- CP A,D, 0xBA, R200
  | cp_a_e -- CP A,E, 0xBB, R200
  | cp_a_h -- CP A,H, 0xBC, R200
  | cp_a_l -- CP A,L, 0xBD, R200
  | cp_a_atHL -- CP A,(HL), 0xBE, R200
  | cp_a_a -- CP A,A, 0xBF, R200
  | ret_nz -- RET NZ, 0xC0, R269
  | pop_bc -- POP BC, 0xC1, R176
  | push_bc -- PUSH BC, 0xC5, R175
  | rst_00 -- RST 0x00, 0xC7, R271
  | ret_z -- RET Z, 0xC8, R269
  | ret -- RET, 0xC9, R268
  | rst_08 -- RST 0x08, 0xCF, R271
  | ret_nc -- RET NC, 0xD0, R269
  | pop_de -- POP DE, 0xD1, R176
  | illegal_D3 -- ILLEGAL 0xD3, 0xD3, R300
  | push_de -- PUSH DE, 0xD5, R175
  | rst_10 -- RST 0x10, 0xD7, R271
  | ret_c -- RET C, 0xD8, R269
  | reti -- RETI, 0xD9, R270
  | illegal_DB -- ILLEGAL 0xDB, 0xDB, R300
  | illegal_DD -- ILLEGAL 0xDD, 0xDD, R300
  | rst_18 -- RST 0x18, 0xDF, R271
  | pop_hl -- POP HL, 0xE1, R176
  | ldh_atC_a -- LDH (C),A, 0xE2, R158
  | illegal_E3 -- ILLEGAL 0xE3, 0xE3, R300
  | illegal_E4 -- ILLEGAL 0xE4, 0xE4, R300
  | push_hl -- PUSH HL, 0xE5, R175
  | rst_20 -- RST 0x20, 0xE7, R271
  | jp_hl -- JP HL, 0xE9, R265
  | illegal_EB -- ILLEGAL 0xEB, 0xEB, R300
  | illegal_EC -- ILLEGAL 0xEC, 0xEC, R300
  | illegal_ED -- ILLEGAL 0xED, 0xED, R300
  | rst_28 -- RST 0x28, 0xEF, R271
  | pop_af -- POP AF, 0xF1, R176
  | ldh_a_atC -- LDH A,(C), 0xF2, R157
  | di -- DI, 0xF3, R285
  | illegal_F4 -- ILLEGAL 0xF4, 0xF4, R300
  | push_af -- PUSH AF, 0xF5, R175
  | rst_30 -- RST 0x30, 0xF7, R271
  | ld_sp_hl -- LD SP,HL, 0xF9, R173
  | ei -- EI, 0xFB, R286
  | illegal_FC -- ILLEGAL 0xFC, 0xFC, R300
  | illegal_FD -- ILLEGAL 0xFD, 0xFD, R300
  | rst_38 -- RST 0x38, 0xFF, R271
  | rlc_b -- RLC B, CB 0x00, R235
  | rlc_c -- RLC C, CB 0x01, R235
  | rlc_d -- RLC D, CB 0x02, R235
  | rlc_e -- RLC E, CB 0x03, R235
  | rlc_h -- RLC H, CB 0x04, R235
  | rlc_l -- RLC L, CB 0x05, R235
  | rlc_atHL -- RLC (HL), CB 0x06, R235
  | rlc_a -- RLC A, CB 0x07, R235
  | rrc_b -- RRC B, CB 0x08, R236
  | rrc_c -- RRC C, CB 0x09, R236
  | rrc_d -- RRC D, CB 0x0A, R236
  | rrc_e -- RRC E, CB 0x0B, R236
  | rrc_h -- RRC H, CB 0x0C, R236
  | rrc_l -- RRC L, CB 0x0D, R236
  | rrc_atHL -- RRC (HL), CB 0x0E, R236
  | rrc_a -- RRC A, CB 0x0F, R236
  | rl_b -- RL B, CB 0x10, R237
  | rl_c -- RL C, CB 0x11, R237
  | rl_d -- RL D, CB 0x12, R237
  | rl_e -- RL E, CB 0x13, R237
  | rl_h -- RL H, CB 0x14, R237
  | rl_l -- RL L, CB 0x15, R237
  | rl_atHL -- RL (HL), CB 0x16, R237
  | rl_a -- RL A, CB 0x17, R237
  | rr_b -- RR B, CB 0x18, R238
  | rr_c -- RR C, CB 0x19, R238
  | rr_d -- RR D, CB 0x1A, R238
  | rr_e -- RR E, CB 0x1B, R238
  | rr_h -- RR H, CB 0x1C, R238
  | rr_l -- RR L, CB 0x1D, R238
  | rr_atHL -- RR (HL), CB 0x1E, R238
  | rr_a -- RR A, CB 0x1F, R238
  | sla_b -- SLA B, CB 0x20, R239
  | sla_c -- SLA C, CB 0x21, R239
  | sla_d -- SLA D, CB 0x22, R239
  | sla_e -- SLA E, CB 0x23, R239
  | sla_h -- SLA H, CB 0x24, R239
  | sla_l -- SLA L, CB 0x25, R239
  | sla_atHL -- SLA (HL), CB 0x26, R239
  | sla_a -- SLA A, CB 0x27, R239
  | sra_b -- SRA B, CB 0x28, R240
  | sra_c -- SRA C, CB 0x29, R240
  | sra_d -- SRA D, CB 0x2A, R240
  | sra_e -- SRA E, CB 0x2B, R240
  | sra_h -- SRA H, CB 0x2C, R240
  | sra_l -- SRA L, CB 0x2D, R240
  | sra_atHL -- SRA (HL), CB 0x2E, R240
  | sra_a -- SRA A, CB 0x2F, R240
  | swap_b -- SWAP B, CB 0x30, R241
  | swap_c -- SWAP C, CB 0x31, R241
  | swap_d -- SWAP D, CB 0x32, R241
  | swap_e -- SWAP E, CB 0x33, R241
  | swap_h -- SWAP H, CB 0x34, R241
  | swap_l -- SWAP L, CB 0x35, R241
  | swap_atHL -- SWAP (HL), CB 0x36, R241
  | swap_a -- SWAP A, CB 0x37, R241
  | srl_b -- SRL B, CB 0x38, R242
  | srl_c -- SRL C, CB 0x39, R242
  | srl_d -- SRL D, CB 0x3A, R242
  | srl_e -- SRL E, CB 0x3B, R242
  | srl_h -- SRL H, CB 0x3C, R242
  | srl_l -- SRL L, CB 0x3D, R242
  | srl_atHL -- SRL (HL), CB 0x3E, R242
  | srl_a -- SRL A, CB 0x3F, R242
  | bit_0_b -- BIT 0,B, CB 0x40, R243
  | bit_0_c -- BIT 0,C, CB 0x41, R243
  | bit_0_d -- BIT 0,D, CB 0x42, R243
  | bit_0_e -- BIT 0,E, CB 0x43, R243
  | bit_0_h -- BIT 0,H, CB 0x44, R243
  | bit_0_l -- BIT 0,L, CB 0x45, R243
  | bit_0_atHL -- BIT 0,(HL), CB 0x46, R243
  | bit_0_a -- BIT 0,A, CB 0x47, R243
  | bit_1_b -- BIT 1,B, CB 0x48, R243
  | bit_1_c -- BIT 1,C, CB 0x49, R243
  | bit_1_d -- BIT 1,D, CB 0x4A, R243
  | bit_1_e -- BIT 1,E, CB 0x4B, R243
  | bit_1_h -- BIT 1,H, CB 0x4C, R243
  | bit_1_l -- BIT 1,L, CB 0x4D, R243
  | bit_1_atHL -- BIT 1,(HL), CB 0x4E, R243
  | bit_1_a -- BIT 1,A, CB 0x4F, R243
  | bit_2_b -- BIT 2,B, CB 0x50, R243
  | bit_2_c -- BIT 2,C, CB 0x51, R243
  | bit_2_d -- BIT 2,D, CB 0x52, R243
  | bit_2_e -- BIT 2,E, CB 0x53, R243
  | bit_2_h -- BIT 2,H, CB 0x54, R243
  | bit_2_l -- BIT 2,L, CB 0x55, R243
  | bit_2_atHL -- BIT 2,(HL), CB 0x56, R243
  | bit_2_a -- BIT 2,A, CB 0x57, R243
  | bit_3_b -- BIT 3,B, CB 0x58, R243
  | bit_3_c -- BIT 3,C, CB 0x59, R243
  | bit_3_d -- BIT 3,D, CB 0x5A, R243
  | bit_3_e -- BIT 3,E, CB 0x5B, R243
  | bit_3_h -- BIT 3,H, CB 0x5C, R243
  | bit_3_l -- BIT 3,L, CB 0x5D, R243
  | bit_3_atHL -- BIT 3,(HL), CB 0x5E, R243
  | bit_3_a -- BIT 3,A, CB 0x5F, R243
  | bit_4_b -- BIT 4,B, CB 0x60, R243
  | bit_4_c -- BIT 4,C, CB 0x61, R243
  | bit_4_d -- BIT 4,D, CB 0x62, R243
  | bit_4_e -- BIT 4,E, CB 0x63, R243
  | bit_4_h -- BIT 4,H, CB 0x64, R243
  | bit_4_l -- BIT 4,L, CB 0x65, R243
  | bit_4_atHL -- BIT 4,(HL), CB 0x66, R243
  | bit_4_a -- BIT 4,A, CB 0x67, R243
  | bit_5_b -- BIT 5,B, CB 0x68, R243
  | bit_5_c -- BIT 5,C, CB 0x69, R243
  | bit_5_d -- BIT 5,D, CB 0x6A, R243
  | bit_5_e -- BIT 5,E, CB 0x6B, R243
  | bit_5_h -- BIT 5,H, CB 0x6C, R243
  | bit_5_l -- BIT 5,L, CB 0x6D, R243
  | bit_5_atHL -- BIT 5,(HL), CB 0x6E, R243
  | bit_5_a -- BIT 5,A, CB 0x6F, R243
  | bit_6_b -- BIT 6,B, CB 0x70, R243
  | bit_6_c -- BIT 6,C, CB 0x71, R243
  | bit_6_d -- BIT 6,D, CB 0x72, R243
  | bit_6_e -- BIT 6,E, CB 0x73, R243
  | bit_6_h -- BIT 6,H, CB 0x74, R243
  | bit_6_l -- BIT 6,L, CB 0x75, R243
  | bit_6_atHL -- BIT 6,(HL), CB 0x76, R243
  | bit_6_a -- BIT 6,A, CB 0x77, R243
  | bit_7_b -- BIT 7,B, CB 0x78, R243
  | bit_7_c -- BIT 7,C, CB 0x79, R243
  | bit_7_d -- BIT 7,D, CB 0x7A, R243
  | bit_7_e -- BIT 7,E, CB 0x7B, R243
  | bit_7_h -- BIT 7,H, CB 0x7C, R243
  | bit_7_l -- BIT 7,L, CB 0x7D, R243
  | bit_7_atHL -- BIT 7,(HL), CB 0x7E, R243
  | bit_7_a -- BIT 7,A, CB 0x7F, R243
  | res_0_b -- RES 0,B, CB 0x80, R244
  | res_0_c -- RES 0,C, CB 0x81, R244
  | res_0_d -- RES 0,D, CB 0x82, R244
  | res_0_e -- RES 0,E, CB 0x83, R244
  | res_0_h -- RES 0,H, CB 0x84, R244
  | res_0_l -- RES 0,L, CB 0x85, R244
  | res_0_atHL -- RES 0,(HL), CB 0x86, R244
  | res_0_a -- RES 0,A, CB 0x87, R244
  | res_1_b -- RES 1,B, CB 0x88, R244
  | res_1_c -- RES 1,C, CB 0x89, R244
  | res_1_d -- RES 1,D, CB 0x8A, R244
  | res_1_e -- RES 1,E, CB 0x8B, R244
  | res_1_h -- RES 1,H, CB 0x8C, R244
  | res_1_l -- RES 1,L, CB 0x8D, R244
  | res_1_atHL -- RES 1,(HL), CB 0x8E, R244
  | res_1_a -- RES 1,A, CB 0x8F, R244
  | res_2_b -- RES 2,B, CB 0x90, R244
  | res_2_c -- RES 2,C, CB 0x91, R244
  | res_2_d -- RES 2,D, CB 0x92, R244
  | res_2_e -- RES 2,E, CB 0x93, R244
  | res_2_h -- RES 2,H, CB 0x94, R244
  | res_2_l -- RES 2,L, CB 0x95, R244
  | res_2_atHL -- RES 2,(HL), CB 0x96, R244
  | res_2_a -- RES 2,A, CB 0x97, R244
  | res_3_b -- RES 3,B, CB 0x98, R244
  | res_3_c -- RES 3,C, CB 0x99, R244
  | res_3_d -- RES 3,D, CB 0x9A, R244
  | res_3_e -- RES 3,E, CB 0x9B, R244
  | res_3_h -- RES 3,H, CB 0x9C, R244
  | res_3_l -- RES 3,L, CB 0x9D, R244
  | res_3_atHL -- RES 3,(HL), CB 0x9E, R244
  | res_3_a -- RES 3,A, CB 0x9F, R244
  | res_4_b -- RES 4,B, CB 0xA0, R244
  | res_4_c -- RES 4,C, CB 0xA1, R244
  | res_4_d -- RES 4,D, CB 0xA2, R244
  | res_4_e -- RES 4,E, CB 0xA3, R244
  | res_4_h -- RES 4,H, CB 0xA4, R244
  | res_4_l -- RES 4,L, CB 0xA5, R244
  | res_4_atHL -- RES 4,(HL), CB 0xA6, R244
  | res_4_a -- RES 4,A, CB 0xA7, R244
  | res_5_b -- RES 5,B, CB 0xA8, R244
  | res_5_c -- RES 5,C, CB 0xA9, R244
  | res_5_d -- RES 5,D, CB 0xAA, R244
  | res_5_e -- RES 5,E, CB 0xAB, R244
  | res_5_h -- RES 5,H, CB 0xAC, R244
  | res_5_l -- RES 5,L, CB 0xAD, R244
  | res_5_atHL -- RES 5,(HL), CB 0xAE, R244
  | res_5_a -- RES 5,A, CB 0xAF, R244
  | res_6_b -- RES 6,B, CB 0xB0, R244
  | res_6_c -- RES 6,C, CB 0xB1, R244
  | res_6_d -- RES 6,D, CB 0xB2, R244
  | res_6_e -- RES 6,E, CB 0xB3, R244
  | res_6_h -- RES 6,H, CB 0xB4, R244
  | res_6_l -- RES 6,L, CB 0xB5, R244
  | res_6_atHL -- RES 6,(HL), CB 0xB6, R244
  | res_6_a -- RES 6,A, CB 0xB7, R244
  | res_7_b -- RES 7,B, CB 0xB8, R244
  | res_7_c -- RES 7,C, CB 0xB9, R244
  | res_7_d -- RES 7,D, CB 0xBA, R244
  | res_7_e -- RES 7,E, CB 0xBB, R244
  | res_7_h -- RES 7,H, CB 0xBC, R244
  | res_7_l -- RES 7,L, CB 0xBD, R244
  | res_7_atHL -- RES 7,(HL), CB 0xBE, R244
  | res_7_a -- RES 7,A, CB 0xBF, R244
  | set_0_b -- SET 0,B, CB 0xC0, R245
  | set_0_c -- SET 0,C, CB 0xC1, R245
  | set_0_d -- SET 0,D, CB 0xC2, R245
  | set_0_e -- SET 0,E, CB 0xC3, R245
  | set_0_h -- SET 0,H, CB 0xC4, R245
  | set_0_l -- SET 0,L, CB 0xC5, R245
  | set_0_atHL -- SET 0,(HL), CB 0xC6, R245
  | set_0_a -- SET 0,A, CB 0xC7, R245
  | set_1_b -- SET 1,B, CB 0xC8, R245
  | set_1_c -- SET 1,C, CB 0xC9, R245
  | set_1_d -- SET 1,D, CB 0xCA, R245
  | set_1_e -- SET 1,E, CB 0xCB, R245
  | set_1_h -- SET 1,H, CB 0xCC, R245
  | set_1_l -- SET 1,L, CB 0xCD, R245
  | set_1_atHL -- SET 1,(HL), CB 0xCE, R245
  | set_1_a -- SET 1,A, CB 0xCF, R245
  | set_2_b -- SET 2,B, CB 0xD0, R245
  | set_2_c -- SET 2,C, CB 0xD1, R245
  | set_2_d -- SET 2,D, CB 0xD2, R245
  | set_2_e -- SET 2,E, CB 0xD3, R245
  | set_2_h -- SET 2,H, CB 0xD4, R245
  | set_2_l -- SET 2,L, CB 0xD5, R245
  | set_2_atHL -- SET 2,(HL), CB 0xD6, R245
  | set_2_a -- SET 2,A, CB 0xD7, R245
  | set_3_b -- SET 3,B, CB 0xD8, R245
  | set_3_c -- SET 3,C, CB 0xD9, R245
  | set_3_d -- SET 3,D, CB 0xDA, R245
  | set_3_e -- SET 3,E, CB 0xDB, R245
  | set_3_h -- SET 3,H, CB 0xDC, R245
  | set_3_l -- SET 3,L, CB 0xDD, R245
  | set_3_atHL -- SET 3,(HL), CB 0xDE, R245
  | set_3_a -- SET 3,A, CB 0xDF, R245
  | set_4_b -- SET 4,B, CB 0xE0, R245
  | set_4_c -- SET 4,C, CB 0xE1, R245
  | set_4_d -- SET 4,D, CB 0xE2, R245
  | set_4_e -- SET 4,E, CB 0xE3, R245
  | set_4_h -- SET 4,H, CB 0xE4, R245
  | set_4_l -- SET 4,L, CB 0xE5, R245
  | set_4_atHL -- SET 4,(HL), CB 0xE6, R245
  | set_4_a -- SET 4,A, CB 0xE7, R245
  | set_5_b -- SET 5,B, CB 0xE8, R245
  | set_5_c -- SET 5,C, CB 0xE9, R245
  | set_5_d -- SET 5,D, CB 0xEA, R245
  | set_5_e -- SET 5,E, CB 0xEB, R245
  | set_5_h -- SET 5,H, CB 0xEC, R245
  | set_5_l -- SET 5,L, CB 0xED, R245
  | set_5_atHL -- SET 5,(HL), CB 0xEE, R245
  | set_5_a -- SET 5,A, CB 0xEF, R245
  | set_6_b -- SET 6,B, CB 0xF0, R245
  | set_6_c -- SET 6,C, CB 0xF1, R245
  | set_6_d -- SET 6,D, CB 0xF2, R245
  | set_6_e -- SET 6,E, CB 0xF3, R245
  | set_6_h -- SET 6,H, CB 0xF4, R245
  | set_6_l -- SET 6,L, CB 0xF5, R245
  | set_6_atHL -- SET 6,(HL), CB 0xF6, R245
  | set_6_a -- SET 6,A, CB 0xF7, R245
  | set_7_b -- SET 7,B, CB 0xF8, R245
  | set_7_c -- SET 7,C, CB 0xF9, R245
  | set_7_d -- SET 7,D, CB 0xFA, R245
  | set_7_e -- SET 7,E, CB 0xFB, R245
  | set_7_h -- SET 7,H, CB 0xFC, R245
  | set_7_l -- SET 7,L, CB 0xFD, R245
  | set_7_atHL -- SET 7,(HL), CB 0xFE, R245
  | set_7_a -- SET 7,A, CB 0xFF, R245
deriving DecidableEq, Repr

end Sys2Proof
end

