-- ==== Sys2Proof/WellFormed.lean ====
section
/-! DEFINITION. Which terms of `Instr` are instructions of the core. Every immediate has exactly the width of its field
(spec/30_encoding.md R105), so the one check left is that the term is no illegal byte. -/

namespace Sys2Proof

/-- Well-formed: one of the 244 primary and 256 CB instructions, not one of the eleven illegal bytes of R109. -/
def Instr.wf : Instr → Bool
  | .illegal_D3 => false
  | .illegal_DB => false
  | .illegal_DD => false
  | .illegal_E3 => false
  | .illegal_E4 => false
  | .illegal_EB => false
  | .illegal_EC => false
  | .illegal_ED => false
  | .illegal_F4 => false
  | .illegal_FC => false
  | .illegal_FD => false
  | _ => true

end Sys2Proof
end

