-- ==== Sys2Proof/Decode.lean ====
section
/-! DEFINITION. Decoding by the opcode maps of spec/30_encoding.md (R107, R108), the encoder by its field patterns
(R101 to R103, R106), the form of every instruction, and the byte-order and sign helpers both use. -/

namespace Sys2Proof

/-! ### Bytes and words (spec/00_scope.md R7) -/

/-- `v[15:8]`. -/
def hiByte (v : Word) : Byte := v.extractLsb' 8 8

/-- `v[7:0]`. -/
def loByte (v : Word) : Byte := v.extractLsb' 0 8

/-- `hi ++ lo` (R7). -/
def wordOf (hi lo : Byte) : Word := hi ++ lo

/-- `sext_16(e)` (R7, R105). -/
def sext16 (e : Byte) : Word := e.signExtend 16

/-! ### The opcode maps -/

/-- A cell of the primary map: the format (R100) and the instruction, waiting for its immediate. -/
inductive Row where
  | op (i : Instr)
  | opN (mk : Byte → Instr)
  | opE (mk : Byte → Instr)
  | opNN (mk : Word → Instr)
  | cb

/-- The length in bytes that the format fixes (R100, R110). -/
def Row.length : Row → Nat
  | .op _ => 1
  | .opN _ => 2
  | .opE _ => 2
  | .opNN _ => 3
  | .cb => 2

/-- Row 0x of the primary map (R107). -/
def mapRow0 : List Row :=
  [.op .nop, .opNN .ld_bc_nn, .op .ld_atBC_a, .op .inc_bc, .op .inc_b, .op .dec_b, .opN .ld_b_n, .op .rlca,
   .opNN .ld_atNN_sp, .op .add_hl_bc, .op .ld_a_atBC, .op .dec_bc, .op .inc_c, .op .dec_c, .opN .ld_c_n, .op .rrca]

/-- Row 1x of the primary map (R107). -/
def mapRow1 : List Row :=
  [.op .stop, .opNN .ld_de_nn, .op .ld_atDE_a, .op .inc_de, .op .inc_d, .op .dec_d, .opN .ld_d_n, .op .rla,
   .opE .jr_e, .op .add_hl_de, .op .ld_a_atDE, .op .dec_de, .op .inc_e, .op .dec_e, .opN .ld_e_n, .op .rra]

/-- Row 2x of the primary map (R107). -/
def mapRow2 : List Row :=
  [.opE .jr_nz_e, .opNN .ld_hl_nn, .op .ld_atHLInc_a, .op .inc_hl, .op .inc_h, .op .dec_h, .opN .ld_h_n, .op .daa,
   .opE .jr_z_e, .op .add_hl_hl, .op .ld_a_atHLInc, .op .dec_hl, .op .inc_l, .op .dec_l, .opN .ld_l_n, .op .cpl]

/-- Row 3x of the primary map (R107). -/
def mapRow3 : List Row :=
  [.opE .jr_nc_e, .opNN .ld_sp_nn, .op .ld_atHLDec_a, .op .inc_sp, .op .inc_atHL, .op .dec_atHL, .opN .ld_atHL_n, .op .scf,
   .opE .jr_c_e, .op .add_hl_sp, .op .ld_a_atHLDec, .op .dec_sp, .op .inc_a, .op .dec_a, .opN .ld_a_n, .op .ccf]

/-- Row 4x of the primary map (R107). -/
def mapRow4 : List Row :=
  [.op .ld_b_b, .op .ld_b_c, .op .ld_b_d, .op .ld_b_e, .op .ld_b_h, .op .ld_b_l, .op .ld_b_atHL, .op .ld_b_a,
   .op .ld_c_b, .op .ld_c_c, .op .ld_c_d, .op .ld_c_e, .op .ld_c_h, .op .ld_c_l, .op .ld_c_atHL, .op .ld_c_a]

/-- Row 5x of the primary map (R107). -/
def mapRow5 : List Row :=
  [.op .ld_d_b, .op .ld_d_c, .op .ld_d_d, .op .ld_d_e, .op .ld_d_h, .op .ld_d_l, .op .ld_d_atHL, .op .ld_d_a,
   .op .ld_e_b, .op .ld_e_c, .op .ld_e_d, .op .ld_e_e, .op .ld_e_h, .op .ld_e_l, .op .ld_e_atHL, .op .ld_e_a]

/-- Row 6x of the primary map (R107). -/
def mapRow6 : List Row :=
  [.op .ld_h_b, .op .ld_h_c, .op .ld_h_d, .op .ld_h_e, .op .ld_h_h, .op .ld_h_l, .op .ld_h_atHL, .op .ld_h_a,
   .op .ld_l_b, .op .ld_l_c, .op .ld_l_d, .op .ld_l_e, .op .ld_l_h, .op .ld_l_l, .op .ld_l_atHL, .op .ld_l_a]

/-- Row 7x of the primary map (R107). -/
def mapRow7 : List Row :=
  [.op .ld_atHL_b, .op .ld_atHL_c, .op .ld_atHL_d, .op .ld_atHL_e, .op .ld_atHL_h, .op .ld_atHL_l, .op .halt, .op .ld_atHL_a,
   .op .ld_a_b, .op .ld_a_c, .op .ld_a_d, .op .ld_a_e, .op .ld_a_h, .op .ld_a_l, .op .ld_a_atHL, .op .ld_a_a]

/-- Row 8x of the primary map (R107). -/
def mapRow8 : List Row :=
  [.op .add_a_b, .op .add_a_c, .op .add_a_d, .op .add_a_e, .op .add_a_h, .op .add_a_l, .op .add_a_atHL, .op .add_a_a,
   .op .adc_a_b, .op .adc_a_c, .op .adc_a_d, .op .adc_a_e, .op .adc_a_h, .op .adc_a_l, .op .adc_a_atHL, .op .adc_a_a]

/-- Row 9x of the primary map (R107). -/
def mapRow9 : List Row :=
  [.op .sub_a_b, .op .sub_a_c, .op .sub_a_d, .op .sub_a_e, .op .sub_a_h, .op .sub_a_l, .op .sub_a_atHL, .op .sub_a_a,
   .op .sbc_a_b, .op .sbc_a_c, .op .sbc_a_d, .op .sbc_a_e, .op .sbc_a_h, .op .sbc_a_l, .op .sbc_a_atHL, .op .sbc_a_a]

/-- Row Ax of the primary map (R107). -/
def mapRowA : List Row :=
  [.op .and_a_b, .op .and_a_c, .op .and_a_d, .op .and_a_e, .op .and_a_h, .op .and_a_l, .op .and_a_atHL, .op .and_a_a,
   .op .xor_a_b, .op .xor_a_c, .op .xor_a_d, .op .xor_a_e, .op .xor_a_h, .op .xor_a_l, .op .xor_a_atHL, .op .xor_a_a]

/-- Row Bx of the primary map (R107). -/
def mapRowB : List Row :=
  [.op .or_a_b, .op .or_a_c, .op .or_a_d, .op .or_a_e, .op .or_a_h, .op .or_a_l, .op .or_a_atHL, .op .or_a_a,
   .op .cp_a_b, .op .cp_a_c, .op .cp_a_d, .op .cp_a_e, .op .cp_a_h, .op .cp_a_l, .op .cp_a_atHL, .op .cp_a_a]

/-- Row Cx of the primary map (R107). -/
def mapRowC : List Row :=
  [.op .ret_nz, .op .pop_bc, .opNN .jp_nz_nn, .opNN .jp_nn, .opNN .call_nz_nn, .op .push_bc, .opN .add_a_n, .op .rst_00,
   .op .ret_z, .op .ret, .opNN .jp_z_nn, .cb, .opNN .call_z_nn, .opNN .call_nn, .opN .adc_a_n, .op .rst_08]

/-- Row Dx of the primary map (R107). -/
def mapRowD : List Row :=
  [.op .ret_nc, .op .pop_de, .opNN .jp_nc_nn, .op .illegal_D3, .opNN .call_nc_nn, .op .push_de, .opN .sub_a_n, .op .rst_10,
   .op .ret_c, .op .reti, .opNN .jp_c_nn, .op .illegal_DB, .opNN .call_c_nn, .op .illegal_DD, .opN .sbc_a_n, .op .rst_18]

/-- Row Ex of the primary map (R107). -/
def mapRowE : List Row :=
  [.opN .ldh_atN_a, .op .pop_hl, .op .ldh_atC_a, .op .illegal_E3, .op .illegal_E4, .op .push_hl, .opN .and_a_n, .op .rst_20,
   .opE .add_sp_e, .op .jp_hl, .opNN .ld_atNN_a, .op .illegal_EB, .op .illegal_EC, .op .illegal_ED, .opN .xor_a_n, .op .rst_28]

/-- Row Fx of the primary map (R107). -/
def mapRowF : List Row :=
  [.opN .ldh_a_atN, .op .pop_af, .op .ldh_a_atC, .op .di, .op .illegal_F4, .op .push_af, .opN .or_a_n, .op .rst_30,
   .opE .ld_hl_spPlusE, .op .ld_sp_hl, .opNN .ld_a_atNN, .op .ei, .op .illegal_FC, .op .illegal_FD, .opN .cp_a_n, .op .rst_38]

/-- The primary opcode map (R107), row by the high digit and column by the low digit. -/
def primaryMap : List (List Row) :=
  [mapRow0, mapRow1, mapRow2, mapRow3, mapRow4, mapRow5, mapRow6, mapRow7, mapRow8, mapRow9, mapRowA, mapRowB, mapRowC, mapRowD, mapRowE, mapRowF]

/-- Row 0x of the CB map (R108). -/
def cbRow0 : List Instr :=
  [.rlc_b, .rlc_c, .rlc_d, .rlc_e, .rlc_h, .rlc_l, .rlc_atHL, .rlc_a,
   .rrc_b, .rrc_c, .rrc_d, .rrc_e, .rrc_h, .rrc_l, .rrc_atHL, .rrc_a]

/-- Row 1x of the CB map (R108). -/
def cbRow1 : List Instr :=
  [.rl_b, .rl_c, .rl_d, .rl_e, .rl_h, .rl_l, .rl_atHL, .rl_a,
   .rr_b, .rr_c, .rr_d, .rr_e, .rr_h, .rr_l, .rr_atHL, .rr_a]

/-- Row 2x of the CB map (R108). -/
def cbRow2 : List Instr :=
  [.sla_b, .sla_c, .sla_d, .sla_e, .sla_h, .sla_l, .sla_atHL, .sla_a,
   .sra_b, .sra_c, .sra_d, .sra_e, .sra_h, .sra_l, .sra_atHL, .sra_a]

/-- Row 3x of the CB map (R108). -/
def cbRow3 : List Instr :=
  [.swap_b, .swap_c, .swap_d, .swap_e, .swap_h, .swap_l, .swap_atHL, .swap_a,
   .srl_b, .srl_c, .srl_d, .srl_e, .srl_h, .srl_l, .srl_atHL, .srl_a]

/-- Row 4x of the CB map (R108). -/
def cbRow4 : List Instr :=
  [.bit_0_b, .bit_0_c, .bit_0_d, .bit_0_e, .bit_0_h, .bit_0_l, .bit_0_atHL, .bit_0_a,
   .bit_1_b, .bit_1_c, .bit_1_d, .bit_1_e, .bit_1_h, .bit_1_l, .bit_1_atHL, .bit_1_a]

/-- Row 5x of the CB map (R108). -/
def cbRow5 : List Instr :=
  [.bit_2_b, .bit_2_c, .bit_2_d, .bit_2_e, .bit_2_h, .bit_2_l, .bit_2_atHL, .bit_2_a,
   .bit_3_b, .bit_3_c, .bit_3_d, .bit_3_e, .bit_3_h, .bit_3_l, .bit_3_atHL, .bit_3_a]

/-- Row 6x of the CB map (R108). -/
def cbRow6 : List Instr :=
  [.bit_4_b, .bit_4_c, .bit_4_d, .bit_4_e, .bit_4_h, .bit_4_l, .bit_4_atHL, .bit_4_a,
   .bit_5_b, .bit_5_c, .bit_5_d, .bit_5_e, .bit_5_h, .bit_5_l, .bit_5_atHL, .bit_5_a]

/-- Row 7x of the CB map (R108). -/
def cbRow7 : List Instr :=
  [.bit_6_b, .bit_6_c, .bit_6_d, .bit_6_e, .bit_6_h, .bit_6_l, .bit_6_atHL, .bit_6_a,
   .bit_7_b, .bit_7_c, .bit_7_d, .bit_7_e, .bit_7_h, .bit_7_l, .bit_7_atHL, .bit_7_a]

/-- Row 8x of the CB map (R108). -/
def cbRow8 : List Instr :=
  [.res_0_b, .res_0_c, .res_0_d, .res_0_e, .res_0_h, .res_0_l, .res_0_atHL, .res_0_a,
   .res_1_b, .res_1_c, .res_1_d, .res_1_e, .res_1_h, .res_1_l, .res_1_atHL, .res_1_a]

/-- Row 9x of the CB map (R108). -/
def cbRow9 : List Instr :=
  [.res_2_b, .res_2_c, .res_2_d, .res_2_e, .res_2_h, .res_2_l, .res_2_atHL, .res_2_a,
   .res_3_b, .res_3_c, .res_3_d, .res_3_e, .res_3_h, .res_3_l, .res_3_atHL, .res_3_a]

/-- Row Ax of the CB map (R108). -/
def cbRowA : List Instr :=
  [.res_4_b, .res_4_c, .res_4_d, .res_4_e, .res_4_h, .res_4_l, .res_4_atHL, .res_4_a,
   .res_5_b, .res_5_c, .res_5_d, .res_5_e, .res_5_h, .res_5_l, .res_5_atHL, .res_5_a]

/-- Row Bx of the CB map (R108). -/
def cbRowB : List Instr :=
  [.res_6_b, .res_6_c, .res_6_d, .res_6_e, .res_6_h, .res_6_l, .res_6_atHL, .res_6_a,
   .res_7_b, .res_7_c, .res_7_d, .res_7_e, .res_7_h, .res_7_l, .res_7_atHL, .res_7_a]

/-- Row Cx of the CB map (R108). -/
def cbRowC : List Instr :=
  [.set_0_b, .set_0_c, .set_0_d, .set_0_e, .set_0_h, .set_0_l, .set_0_atHL, .set_0_a,
   .set_1_b, .set_1_c, .set_1_d, .set_1_e, .set_1_h, .set_1_l, .set_1_atHL, .set_1_a]

/-- Row Dx of the CB map (R108). -/
def cbRowD : List Instr :=
  [.set_2_b, .set_2_c, .set_2_d, .set_2_e, .set_2_h, .set_2_l, .set_2_atHL, .set_2_a,
   .set_3_b, .set_3_c, .set_3_d, .set_3_e, .set_3_h, .set_3_l, .set_3_atHL, .set_3_a]

/-- Row Ex of the CB map (R108). -/
def cbRowE : List Instr :=
  [.set_4_b, .set_4_c, .set_4_d, .set_4_e, .set_4_h, .set_4_l, .set_4_atHL, .set_4_a,
   .set_5_b, .set_5_c, .set_5_d, .set_5_e, .set_5_h, .set_5_l, .set_5_atHL, .set_5_a]

/-- Row Fx of the CB map (R108). -/
def cbRowF : List Instr :=
  [.set_6_b, .set_6_c, .set_6_d, .set_6_e, .set_6_h, .set_6_l, .set_6_atHL, .set_6_a,
   .set_7_b, .set_7_c, .set_7_d, .set_7_e, .set_7_h, .set_7_l, .set_7_atHL, .set_7_a]

/-- The CB-prefixed map (R108). -/
def cbMap : List (List Instr) :=
  [cbRow0, cbRow1, cbRow2, cbRow3, cbRow4, cbRow5, cbRow6, cbRow7, cbRow8, cbRow9, cbRowA, cbRowB, cbRowC, cbRowD, cbRowE, cbRowF]

/-- The cell of a map at a byte: row `o / 16`, column `o % 16`. -/
def mapCell {α : Type} (m : List (List α)) (o : Byte) : Option α :=
  match m[o.toNat / 16]? with
  | some row => row[o.toNat % 16]?
  | none => none

/-- The length of an instruction, known from its first byte (R110). -/
def opLength (o : Byte) : Nat :=
  match mapCell primaryMap o with
  | some row => row.length
  | none => 1

/-- Why bytes are no instruction: there are too few of them (`empty`, `truncated`), or a byte has no cell in the
maps, which happens for no byte (R112). -/
inductive DecodeError where
  | empty
  | truncated (o : Byte)
  | noCell (o : Byte)
deriving DecidableEq, Repr

/-- Decode the instruction at the head of a list of bytes, and give the bytes after it (R100, R107, R108, R111).
The eleven illegal bytes decode to their own constructors, whose meaning is the error (R109, R300). -/
def decode : List Byte → Except DecodeError (Instr × List Byte)
  | [] => .error .empty
  | o :: rest =>
    match mapCell primaryMap o, rest with
    | some (.op i), rest => .ok (i, rest)
    | some (.opN mk), n :: rest => .ok (mk n, rest)
    | some (.opE mk), e :: rest => .ok (mk e, rest)
    | some (.opNN mk), lo :: hi :: rest => .ok (mk (wordOf hi lo), rest)
    | some .cb, o2 :: rest =>
      match mapCell cbMap o2 with
      | some i => .ok (i, rest)
      | none => .error (.noCell o2)
    | some _, _ => .error (.truncated o)
    | none, _ => .error (.noCell o)

/-! ### The form of every instruction -/

/-- The form of each row: the register, condition, pair, bit number or target its mnemonic names, as operands. -/
def Instr.form : Instr → Form
  | .nop => .nop
  | .ld_bc_nn nn => .ldRRNN .bc nn
  | .ld_atBC_a => .ldAtBCA
  | .inc_bc => .incRR .bc
  | .inc_b => .incR .b
  | .dec_b => .decR .b
  | .ld_b_n n => .ldRN .b n
  | .rlca => .rotA .rlca
  | .ld_atNN_sp nn => .ldAtNNSP nn
  | .add_hl_bc => .addHLRR .bc
  | .ld_a_atBC => .ldAAtBC
  | .dec_bc => .decRR .bc
  | .inc_c => .incR .c
  | .dec_c => .decR .c
  | .ld_c_n n => .ldRN .c n
  | .rrca => .rotA .rrca
  | .stop => .stop
  | .ld_de_nn nn => .ldRRNN .de nn
  | .ld_atDE_a => .ldAtDEA
  | .inc_de => .incRR .de
  | .inc_d => .incR .d
  | .dec_d => .decR .d
  | .ld_d_n n => .ldRN .d n
  | .rla => .rotA .rla
  | .jr_e e => .jr e
  | .add_hl_de => .addHLRR .de
  | .ld_a_atDE => .ldAAtDE
  | .dec_de => .decRR .de
  | .inc_e => .incR .e
  | .dec_e => .decR .e
  | .ld_e_n n => .ldRN .e n
  | .rra => .rotA .rra
  | .jr_nz_e e => .jrCc .nz e
  | .ld_hl_nn nn => .ldRRNN .hl nn
  | .ld_atHLInc_a => .ldAtHLIncA
  | .inc_hl => .incRR .hl
  | .inc_h => .incR .h
  | .dec_h => .decR .h
  | .ld_h_n n => .ldRN .h n
  | .daa => .daa
  | .jr_z_e e => .jrCc .z e
  | .add_hl_hl => .addHLRR .hl
  | .ld_a_atHLInc => .ldAAtHLInc
  | .dec_hl => .decRR .hl
  | .inc_l => .incR .l
  | .dec_l => .decR .l
  | .ld_l_n n => .ldRN .l n
  | .cpl => .cpl
  | .jr_nc_e e => .jrCc .nc e
  | .ld_sp_nn nn => .ldRRNN .sp nn
  | .ld_atHLDec_a => .ldAtHLDecA
  | .inc_sp => .incRR .sp
  | .inc_atHL => .incAtHL
  | .dec_atHL => .decAtHL
  | .ld_atHL_n n => .ldAtHLN n
  | .scf => .scf
  | .jr_c_e e => .jrCc .c e
  | .add_hl_sp => .addHLRR .sp
  | .ld_a_atHLDec => .ldAAtHLDec
  | .dec_sp => .decRR .sp
  | .inc_a => .incR .a
  | .dec_a => .decR .a
  | .ld_a_n n => .ldRN .a n
  | .ccf => .ccf
  | .ld_b_b => .ldRR .b .b
  | .ld_b_c => .ldRR .b .c
  | .ld_b_d => .ldRR .b .d
  | .ld_b_e => .ldRR .b .e
  | .ld_b_h => .ldRR .b .h
  | .ld_b_l => .ldRR .b .l
  | .ld_b_atHL => .ldRAtHL .b
  | .ld_b_a => .ldRR .b .a
  | .ld_c_b => .ldRR .c .b
  | .ld_c_c => .ldRR .c .c
  | .ld_c_d => .ldRR .c .d
  | .ld_c_e => .ldRR .c .e
  | .ld_c_h => .ldRR .c .h
  | .ld_c_l => .ldRR .c .l
  | .ld_c_atHL => .ldRAtHL .c
  | .ld_c_a => .ldRR .c .a
  | .ld_d_b => .ldRR .d .b
  | .ld_d_c => .ldRR .d .c
  | .ld_d_d => .ldRR .d .d
  | .ld_d_e => .ldRR .d .e
  | .ld_d_h => .ldRR .d .h
  | .ld_d_l => .ldRR .d .l
  | .ld_d_atHL => .ldRAtHL .d
  | .ld_d_a => .ldRR .d .a
  | .ld_e_b => .ldRR .e .b
  | .ld_e_c => .ldRR .e .c
  | .ld_e_d => .ldRR .e .d
  | .ld_e_e => .ldRR .e .e
  | .ld_e_h => .ldRR .e .h
  | .ld_e_l => .ldRR .e .l
  | .ld_e_atHL => .ldRAtHL .e
  | .ld_e_a => .ldRR .e .a
  | .ld_h_b => .ldRR .h .b
  | .ld_h_c => .ldRR .h .c
  | .ld_h_d => .ldRR .h .d
  | .ld_h_e => .ldRR .h .e
  | .ld_h_h => .ldRR .h .h
  | .ld_h_l => .ldRR .h .l
  | .ld_h_atHL => .ldRAtHL .h
  | .ld_h_a => .ldRR .h .a
  | .ld_l_b => .ldRR .l .b
  | .ld_l_c => .ldRR .l .c
  | .ld_l_d => .ldRR .l .d
  | .ld_l_e => .ldRR .l .e
  | .ld_l_h => .ldRR .l .h
  | .ld_l_l => .ldRR .l .l
  | .ld_l_atHL => .ldRAtHL .l
  | .ld_l_a => .ldRR .l .a
  | .ld_atHL_b => .ldAtHLR .b
  | .ld_atHL_c => .ldAtHLR .c
  | .ld_atHL_d => .ldAtHLR .d
  | .ld_atHL_e => .ldAtHLR .e
  | .ld_atHL_h => .ldAtHLR .h
  | .ld_atHL_l => .ldAtHLR .l
  | .halt => .halt
  | .ld_atHL_a => .ldAtHLR .a
  | .ld_a_b => .ldRR .a .b
  | .ld_a_c => .ldRR .a .c
  | .ld_a_d => .ldRR .a .d
  | .ld_a_e => .ldRR .a .e
  | .ld_a_h => .ldRR .a .h
  | .ld_a_l => .ldRR .a .l
  | .ld_a_atHL => .ldRAtHL .a
  | .ld_a_a => .ldRR .a .a
  | .add_a_b => .alu .add (.reg .b)
  | .add_a_c => .alu .add (.reg .c)
  | .add_a_d => .alu .add (.reg .d)
  | .add_a_e => .alu .add (.reg .e)
  | .add_a_h => .alu .add (.reg .h)
  | .add_a_l => .alu .add (.reg .l)
  | .add_a_atHL => .alu .add .atHL
  | .add_a_a => .alu .add (.reg .a)
  | .adc_a_b => .alu .adc (.reg .b)
  | .adc_a_c => .alu .adc (.reg .c)
  | .adc_a_d => .alu .adc (.reg .d)
  | .adc_a_e => .alu .adc (.reg .e)
  | .adc_a_h => .alu .adc (.reg .h)
  | .adc_a_l => .alu .adc (.reg .l)
  | .adc_a_atHL => .alu .adc .atHL
  | .adc_a_a => .alu .adc (.reg .a)
  | .sub_a_b => .alu .sub (.reg .b)
  | .sub_a_c => .alu .sub (.reg .c)
  | .sub_a_d => .alu .sub (.reg .d)
  | .sub_a_e => .alu .sub (.reg .e)
  | .sub_a_h => .alu .sub (.reg .h)
  | .sub_a_l => .alu .sub (.reg .l)
  | .sub_a_atHL => .alu .sub .atHL
  | .sub_a_a => .alu .sub (.reg .a)
  | .sbc_a_b => .alu .sbc (.reg .b)
  | .sbc_a_c => .alu .sbc (.reg .c)
  | .sbc_a_d => .alu .sbc (.reg .d)
  | .sbc_a_e => .alu .sbc (.reg .e)
  | .sbc_a_h => .alu .sbc (.reg .h)
  | .sbc_a_l => .alu .sbc (.reg .l)
  | .sbc_a_atHL => .alu .sbc .atHL
  | .sbc_a_a => .alu .sbc (.reg .a)
  | .and_a_b => .alu .and (.reg .b)
  | .and_a_c => .alu .and (.reg .c)
  | .and_a_d => .alu .and (.reg .d)
  | .and_a_e => .alu .and (.reg .e)
  | .and_a_h => .alu .and (.reg .h)
  | .and_a_l => .alu .and (.reg .l)
  | .and_a_atHL => .alu .and .atHL
  | .and_a_a => .alu .and (.reg .a)
  | .xor_a_b => .alu .xor (.reg .b)
  | .xor_a_c => .alu .xor (.reg .c)
  | .xor_a_d => .alu .xor (.reg .d)
  | .xor_a_e => .alu .xor (.reg .e)
  | .xor_a_h => .alu .xor (.reg .h)
  | .xor_a_l => .alu .xor (.reg .l)
  | .xor_a_atHL => .alu .xor .atHL
  | .xor_a_a => .alu .xor (.reg .a)
  | .or_a_b => .alu .or (.reg .b)
  | .or_a_c => .alu .or (.reg .c)
  | .or_a_d => .alu .or (.reg .d)
  | .or_a_e => .alu .or (.reg .e)
  | .or_a_h => .alu .or (.reg .h)
  | .or_a_l => .alu .or (.reg .l)
  | .or_a_atHL => .alu .or .atHL
  | .or_a_a => .alu .or (.reg .a)
  | .cp_a_b => .alu .cp (.reg .b)
  | .cp_a_c => .alu .cp (.reg .c)
  | .cp_a_d => .alu .cp (.reg .d)
  | .cp_a_e => .alu .cp (.reg .e)
  | .cp_a_h => .alu .cp (.reg .h)
  | .cp_a_l => .alu .cp (.reg .l)
  | .cp_a_atHL => .alu .cp .atHL
  | .cp_a_a => .alu .cp (.reg .a)
  | .ret_nz => .retCc .nz
  | .pop_bc => .pop .bc
  | .jp_nz_nn nn => .jpCc .nz nn
  | .jp_nn nn => .jp nn
  | .call_nz_nn nn => .callCc .nz nn
  | .push_bc => .push .bc
  | .add_a_n n => .alu .add (.imm n)
  | .rst_00 => .rst 0
  | .ret_z => .retCc .z
  | .ret => .ret
  | .jp_z_nn nn => .jpCc .z nn
  | .call_z_nn nn => .callCc .z nn
  | .call_nn nn => .call nn
  | .adc_a_n n => .alu .adc (.imm n)
  | .rst_08 => .rst 1
  | .ret_nc => .retCc .nc
  | .pop_de => .pop .de
  | .jp_nc_nn nn => .jpCc .nc nn
  | .illegal_D3 => .illegal 0xD3
  | .call_nc_nn nn => .callCc .nc nn
  | .push_de => .push .de
  | .sub_a_n n => .alu .sub (.imm n)
  | .rst_10 => .rst 2
  | .ret_c => .retCc .c
  | .reti => .reti
  | .jp_c_nn nn => .jpCc .c nn
  | .illegal_DB => .illegal 0xDB
  | .call_c_nn nn => .callCc .c nn
  | .illegal_DD => .illegal 0xDD
  | .sbc_a_n n => .alu .sbc (.imm n)
  | .rst_18 => .rst 3
  | .ldh_atN_a n => .ldhAtNA n
  | .pop_hl => .pop .hl
  | .ldh_atC_a => .ldhAtCA
  | .illegal_E3 => .illegal 0xE3
  | .illegal_E4 => .illegal 0xE4
  | .push_hl => .push .hl
  | .and_a_n n => .alu .and (.imm n)
  | .rst_20 => .rst 4
  | .add_sp_e e => .addSPE e
  | .jp_hl => .jpHL
  | .ld_atNN_a nn => .ldAtNNA nn
  | .illegal_EB => .illegal 0xEB
  | .illegal_EC => .illegal 0xEC
  | .illegal_ED => .illegal 0xED
  | .xor_a_n n => .alu .xor (.imm n)
  | .rst_28 => .rst 5
  | .ldh_a_atN n => .ldhAAtN n
  | .pop_af => .pop .af
  | .ldh_a_atC => .ldhAAtC
  | .di => .di
  | .illegal_F4 => .illegal 0xF4
  | .push_af => .push .af
  | .or_a_n n => .alu .or (.imm n)
  | .rst_30 => .rst 6
  | .ld_hl_spPlusE e => .ldHLSPE e
  | .ld_sp_hl => .ldSPHL
  | .ld_a_atNN nn => .ldAAtNN nn
  | .ei => .ei
  | .illegal_FC => .illegal 0xFC
  | .illegal_FD => .illegal 0xFD
  | .cp_a_n n => .alu .cp (.imm n)
  | .rst_38 => .rst 7
  | .rlc_b => .rot .rlc (.reg .b)
  | .rlc_c => .rot .rlc (.reg .c)
  | .rlc_d => .rot .rlc (.reg .d)
  | .rlc_e => .rot .rlc (.reg .e)
  | .rlc_h => .rot .rlc (.reg .h)
  | .rlc_l => .rot .rlc (.reg .l)
  | .rlc_atHL => .rot .rlc .atHL
  | .rlc_a => .rot .rlc (.reg .a)
  | .rrc_b => .rot .rrc (.reg .b)
  | .rrc_c => .rot .rrc (.reg .c)
  | .rrc_d => .rot .rrc (.reg .d)
  | .rrc_e => .rot .rrc (.reg .e)
  | .rrc_h => .rot .rrc (.reg .h)
  | .rrc_l => .rot .rrc (.reg .l)
  | .rrc_atHL => .rot .rrc .atHL
  | .rrc_a => .rot .rrc (.reg .a)
  | .rl_b => .rot .rl (.reg .b)
  | .rl_c => .rot .rl (.reg .c)
  | .rl_d => .rot .rl (.reg .d)
  | .rl_e => .rot .rl (.reg .e)
  | .rl_h => .rot .rl (.reg .h)
  | .rl_l => .rot .rl (.reg .l)
  | .rl_atHL => .rot .rl .atHL
  | .rl_a => .rot .rl (.reg .a)
  | .rr_b => .rot .rr (.reg .b)
  | .rr_c => .rot .rr (.reg .c)
  | .rr_d => .rot .rr (.reg .d)
  | .rr_e => .rot .rr (.reg .e)
  | .rr_h => .rot .rr (.reg .h)
  | .rr_l => .rot .rr (.reg .l)
  | .rr_atHL => .rot .rr .atHL
  | .rr_a => .rot .rr (.reg .a)
  | .sla_b => .rot .sla (.reg .b)
  | .sla_c => .rot .sla (.reg .c)
  | .sla_d => .rot .sla (.reg .d)
  | .sla_e => .rot .sla (.reg .e)
  | .sla_h => .rot .sla (.reg .h)
  | .sla_l => .rot .sla (.reg .l)
  | .sla_atHL => .rot .sla .atHL
  | .sla_a => .rot .sla (.reg .a)
  | .sra_b => .rot .sra (.reg .b)
  | .sra_c => .rot .sra (.reg .c)
  | .sra_d => .rot .sra (.reg .d)
  | .sra_e => .rot .sra (.reg .e)
  | .sra_h => .rot .sra (.reg .h)
  | .sra_l => .rot .sra (.reg .l)
  | .sra_atHL => .rot .sra .atHL
  | .sra_a => .rot .sra (.reg .a)
  | .swap_b => .rot .swap (.reg .b)
  | .swap_c => .rot .swap (.reg .c)
  | .swap_d => .rot .swap (.reg .d)
  | .swap_e => .rot .swap (.reg .e)
  | .swap_h => .rot .swap (.reg .h)
  | .swap_l => .rot .swap (.reg .l)
  | .swap_atHL => .rot .swap .atHL
  | .swap_a => .rot .swap (.reg .a)
  | .srl_b => .rot .srl (.reg .b)
  | .srl_c => .rot .srl (.reg .c)
  | .srl_d => .rot .srl (.reg .d)
  | .srl_e => .rot .srl (.reg .e)
  | .srl_h => .rot .srl (.reg .h)
  | .srl_l => .rot .srl (.reg .l)
  | .srl_atHL => .rot .srl .atHL
  | .srl_a => .rot .srl (.reg .a)
  | .bit_0_b => .bit 0 (.reg .b)
  | .bit_0_c => .bit 0 (.reg .c)
  | .bit_0_d => .bit 0 (.reg .d)
  | .bit_0_e => .bit 0 (.reg .e)
  | .bit_0_h => .bit 0 (.reg .h)
  | .bit_0_l => .bit 0 (.reg .l)
  | .bit_0_atHL => .bit 0 .atHL
  | .bit_0_a => .bit 0 (.reg .a)
  | .bit_1_b => .bit 1 (.reg .b)
  | .bit_1_c => .bit 1 (.reg .c)
  | .bit_1_d => .bit 1 (.reg .d)
  | .bit_1_e => .bit 1 (.reg .e)
  | .bit_1_h => .bit 1 (.reg .h)
  | .bit_1_l => .bit 1 (.reg .l)
  | .bit_1_atHL => .bit 1 .atHL
  | .bit_1_a => .bit 1 (.reg .a)
  | .bit_2_b => .bit 2 (.reg .b)
  | .bit_2_c => .bit 2 (.reg .c)
  | .bit_2_d => .bit 2 (.reg .d)
  | .bit_2_e => .bit 2 (.reg .e)
  | .bit_2_h => .bit 2 (.reg .h)
  | .bit_2_l => .bit 2 (.reg .l)
  | .bit_2_atHL => .bit 2 .atHL
  | .bit_2_a => .bit 2 (.reg .a)
  | .bit_3_b => .bit 3 (.reg .b)
  | .bit_3_c => .bit 3 (.reg .c)
  | .bit_3_d => .bit 3 (.reg .d)
  | .bit_3_e => .bit 3 (.reg .e)
  | .bit_3_h => .bit 3 (.reg .h)
  | .bit_3_l => .bit 3 (.reg .l)
  | .bit_3_atHL => .bit 3 .atHL
  | .bit_3_a => .bit 3 (.reg .a)
  | .bit_4_b => .bit 4 (.reg .b)
  | .bit_4_c => .bit 4 (.reg .c)
  | .bit_4_d => .bit 4 (.reg .d)
  | .bit_4_e => .bit 4 (.reg .e)
  | .bit_4_h => .bit 4 (.reg .h)
  | .bit_4_l => .bit 4 (.reg .l)
  | .bit_4_atHL => .bit 4 .atHL
  | .bit_4_a => .bit 4 (.reg .a)
  | .bit_5_b => .bit 5 (.reg .b)
  | .bit_5_c => .bit 5 (.reg .c)
  | .bit_5_d => .bit 5 (.reg .d)
  | .bit_5_e => .bit 5 (.reg .e)
  | .bit_5_h => .bit 5 (.reg .h)
  | .bit_5_l => .bit 5 (.reg .l)
  | .bit_5_atHL => .bit 5 .atHL
  | .bit_5_a => .bit 5 (.reg .a)
  | .bit_6_b => .bit 6 (.reg .b)
  | .bit_6_c => .bit 6 (.reg .c)
  | .bit_6_d => .bit 6 (.reg .d)
  | .bit_6_e => .bit 6 (.reg .e)
  | .bit_6_h => .bit 6 (.reg .h)
  | .bit_6_l => .bit 6 (.reg .l)
  | .bit_6_atHL => .bit 6 .atHL
  | .bit_6_a => .bit 6 (.reg .a)
  | .bit_7_b => .bit 7 (.reg .b)
  | .bit_7_c => .bit 7 (.reg .c)
  | .bit_7_d => .bit 7 (.reg .d)
  | .bit_7_e => .bit 7 (.reg .e)
  | .bit_7_h => .bit 7 (.reg .h)
  | .bit_7_l => .bit 7 (.reg .l)
  | .bit_7_atHL => .bit 7 .atHL
  | .bit_7_a => .bit 7 (.reg .a)
  | .res_0_b => .res 0 (.reg .b)
  | .res_0_c => .res 0 (.reg .c)
  | .res_0_d => .res 0 (.reg .d)
  | .res_0_e => .res 0 (.reg .e)
  | .res_0_h => .res 0 (.reg .h)
  | .res_0_l => .res 0 (.reg .l)
  | .res_0_atHL => .res 0 .atHL
  | .res_0_a => .res 0 (.reg .a)
  | .res_1_b => .res 1 (.reg .b)
  | .res_1_c => .res 1 (.reg .c)
  | .res_1_d => .res 1 (.reg .d)
  | .res_1_e => .res 1 (.reg .e)
  | .res_1_h => .res 1 (.reg .h)
  | .res_1_l => .res 1 (.reg .l)
  | .res_1_atHL => .res 1 .atHL
  | .res_1_a => .res 1 (.reg .a)
  | .res_2_b => .res 2 (.reg .b)
  | .res_2_c => .res 2 (.reg .c)
  | .res_2_d => .res 2 (.reg .d)
  | .res_2_e => .res 2 (.reg .e)
  | .res_2_h => .res 2 (.reg .h)
  | .res_2_l => .res 2 (.reg .l)
  | .res_2_atHL => .res 2 .atHL
  | .res_2_a => .res 2 (.reg .a)
  | .res_3_b => .res 3 (.reg .b)
  | .res_3_c => .res 3 (.reg .c)
  | .res_3_d => .res 3 (.reg .d)
  | .res_3_e => .res 3 (.reg .e)
  | .res_3_h => .res 3 (.reg .h)
  | .res_3_l => .res 3 (.reg .l)
  | .res_3_atHL => .res 3 .atHL
  | .res_3_a => .res 3 (.reg .a)
  | .res_4_b => .res 4 (.reg .b)
  | .res_4_c => .res 4 (.reg .c)
  | .res_4_d => .res 4 (.reg .d)
  | .res_4_e => .res 4 (.reg .e)
  | .res_4_h => .res 4 (.reg .h)
  | .res_4_l => .res 4 (.reg .l)
  | .res_4_atHL => .res 4 .atHL
  | .res_4_a => .res 4 (.reg .a)
  | .res_5_b => .res 5 (.reg .b)
  | .res_5_c => .res 5 (.reg .c)
  | .res_5_d => .res 5 (.reg .d)
  | .res_5_e => .res 5 (.reg .e)
  | .res_5_h => .res 5 (.reg .h)
  | .res_5_l => .res 5 (.reg .l)
  | .res_5_atHL => .res 5 .atHL
  | .res_5_a => .res 5 (.reg .a)
  | .res_6_b => .res 6 (.reg .b)
  | .res_6_c => .res 6 (.reg .c)
  | .res_6_d => .res 6 (.reg .d)
  | .res_6_e => .res 6 (.reg .e)
  | .res_6_h => .res 6 (.reg .h)
  | .res_6_l => .res 6 (.reg .l)
  | .res_6_atHL => .res 6 .atHL
  | .res_6_a => .res 6 (.reg .a)
  | .res_7_b => .res 7 (.reg .b)
  | .res_7_c => .res 7 (.reg .c)
  | .res_7_d => .res 7 (.reg .d)
  | .res_7_e => .res 7 (.reg .e)
  | .res_7_h => .res 7 (.reg .h)
  | .res_7_l => .res 7 (.reg .l)
  | .res_7_atHL => .res 7 .atHL
  | .res_7_a => .res 7 (.reg .a)
  | .set_0_b => .set 0 (.reg .b)
  | .set_0_c => .set 0 (.reg .c)
  | .set_0_d => .set 0 (.reg .d)
  | .set_0_e => .set 0 (.reg .e)
  | .set_0_h => .set 0 (.reg .h)
  | .set_0_l => .set 0 (.reg .l)
  | .set_0_atHL => .set 0 .atHL
  | .set_0_a => .set 0 (.reg .a)
  | .set_1_b => .set 1 (.reg .b)
  | .set_1_c => .set 1 (.reg .c)
  | .set_1_d => .set 1 (.reg .d)
  | .set_1_e => .set 1 (.reg .e)
  | .set_1_h => .set 1 (.reg .h)
  | .set_1_l => .set 1 (.reg .l)
  | .set_1_atHL => .set 1 .atHL
  | .set_1_a => .set 1 (.reg .a)
  | .set_2_b => .set 2 (.reg .b)
  | .set_2_c => .set 2 (.reg .c)
  | .set_2_d => .set 2 (.reg .d)
  | .set_2_e => .set 2 (.reg .e)
  | .set_2_h => .set 2 (.reg .h)
  | .set_2_l => .set 2 (.reg .l)
  | .set_2_atHL => .set 2 .atHL
  | .set_2_a => .set 2 (.reg .a)
  | .set_3_b => .set 3 (.reg .b)
  | .set_3_c => .set 3 (.reg .c)
  | .set_3_d => .set 3 (.reg .d)
  | .set_3_e => .set 3 (.reg .e)
  | .set_3_h => .set 3 (.reg .h)
  | .set_3_l => .set 3 (.reg .l)
  | .set_3_atHL => .set 3 .atHL
  | .set_3_a => .set 3 (.reg .a)
  | .set_4_b => .set 4 (.reg .b)
  | .set_4_c => .set 4 (.reg .c)
  | .set_4_d => .set 4 (.reg .d)
  | .set_4_e => .set 4 (.reg .e)
  | .set_4_h => .set 4 (.reg .h)
  | .set_4_l => .set 4 (.reg .l)
  | .set_4_atHL => .set 4 .atHL
  | .set_4_a => .set 4 (.reg .a)
  | .set_5_b => .set 5 (.reg .b)
  | .set_5_c => .set 5 (.reg .c)
  | .set_5_d => .set 5 (.reg .d)
  | .set_5_e => .set 5 (.reg .e)
  | .set_5_h => .set 5 (.reg .h)
  | .set_5_l => .set 5 (.reg .l)
  | .set_5_atHL => .set 5 .atHL
  | .set_5_a => .set 5 (.reg .a)
  | .set_6_b => .set 6 (.reg .b)
  | .set_6_c => .set 6 (.reg .c)
  | .set_6_d => .set 6 (.reg .d)
  | .set_6_e => .set 6 (.reg .e)
  | .set_6_h => .set 6 (.reg .h)
  | .set_6_l => .set 6 (.reg .l)
  | .set_6_atHL => .set 6 .atHL
  | .set_6_a => .set 6 (.reg .a)
  | .set_7_b => .set 7 (.reg .b)
  | .set_7_c => .set 7 (.reg .c)
  | .set_7_d => .set 7 (.reg .d)
  | .set_7_e => .set 7 (.reg .e)
  | .set_7_h => .set 7 (.reg .h)
  | .set_7_l => .set 7 (.reg .l)
  | .set_7_atHL => .set 7 .atHL
  | .set_7_a => .set 7 (.reg .a)

/-! ### The encoder -/

/-- The register codes (R102); code 6 is the operand (HL). -/
def Reg8.code : Reg8 → Nat
  | .b => 0 | .c => 1 | .d => 2 | .e => 3 | .h => 4 | .l => 5 | .a => 7

/-- The pair codes of LD rr,nn, INC rr, DEC rr and ADD HL,rr (R103). -/
def Reg16.code : Reg16 → Nat
  | .bc => 0 | .de => 1 | .hl => 2 | .sp => 3

/-- The pair codes of PUSH and POP (R103). -/
def StackPair.code : StackPair → Nat
  | .bc => 0 | .de => 1 | .hl => 2 | .af => 3

/-- The condition codes (R106). -/
def Cond.code : Cond → Nat
  | .nz => 0 | .z => 1 | .nc => 2 | .c => 3

/-- The ALU operation codes (R190). -/
def AluOp.code : AluOp → Nat
  | .add => 0 | .adc => 1 | .sub => 2 | .sbc => 3 | .and => 4 | .xor => 5 | .or => 6 | .cp => 7

/-- The CB rotate and shift codes (R101). -/
def RotOp.code : RotOp → Nat
  | .rlc => 0 | .rrc => 1 | .rl => 2 | .rr => 3 | .sla => 4 | .sra => 5 | .swap => 6 | .srl => 7

/-- The codes `ooo` of RLCA, RRCA, RLA, RRA in the pattern `00 ooo 111` (R101). -/
def AccRotOp.code : AccRotOp → Nat
  | .rlca => 0 | .rrca => 1 | .rla => 2 | .rra => 3

/-- The code of a CB target: a register's, or 6 for (HL) (R102, R234). -/
def Target8.code : Target8 → Nat
  | .reg r => r.code
  | .atHL => 6

/-- The opcode byte with fields x = o[7:6], y = o[5:3], z = o[2:0] (R101). -/
def fieldsXYZ (x y z : Nat) : Byte := BitVec.ofNat 8 (64 * x + 8 * y + z)

/-- The opcode byte with fields x = o[7:6], p = o[5:4], q = o[3], z = o[2:0] (R101). -/
def fieldsXPQZ (x p q z : Nat) : Byte := BitVec.ofNat 8 (64 * x + 16 * p + 8 * q + z)

/-- An opcode followed by an immediate word, low byte first (R100, R105). -/
def withWord (o : Byte) (nn : Word) : List Byte := [o, loByte nn, hiByte nn]

/-- The bytes of a form by the patterns of R101; every single fixed byte as R107 gives it. -/
def Form.bytes : Form → List Byte
  | .ldRR dst src => [fieldsXYZ 1 dst.code src.code]
  | .ldRN dst n => [fieldsXYZ 0 dst.code 6, n]
  | .ldRAtHL dst => [fieldsXYZ 1 dst.code 6]
  | .ldAtHLR src => [fieldsXYZ 1 6 src.code]
  | .ldAtHLN n => [fieldsXYZ 0 6 6, n]
  | .ldAAtBC => [fieldsXPQZ 0 0 1 2]
  | .ldAAtDE => [fieldsXPQZ 0 1 1 2]
  | .ldAAtNN nn => withWord 0xFA nn
  | .ldAtBCA => [fieldsXPQZ 0 0 0 2]
  | .ldAtDEA => [fieldsXPQZ 0 1 0 2]
  | .ldAtNNA nn => withWord 0xEA nn
  | .ldAAtHLInc => [fieldsXPQZ 0 2 1 2]
  | .ldAAtHLDec => [fieldsXPQZ 0 3 1 2]
  | .ldAtHLIncA => [fieldsXPQZ 0 2 0 2]
  | .ldAtHLDecA => [fieldsXPQZ 0 3 0 2]
  | .ldhAAtN n => [0xF0, n]
  | .ldhAtNA n => [0xE0, n]
  | .ldhAAtC => [0xF2]
  | .ldhAtCA => [0xE2]
  | .ldRRNN rr nn => withWord (fieldsXPQZ 0 rr.code 0 1) nn
  | .ldAtNNSP nn => withWord 0x08 nn
  | .ldSPHL => [0xF9]
  | .ldHLSPE e => [0xF8, e]
  | .push p => [fieldsXPQZ 3 p.code 0 5]
  | .pop p => [fieldsXPQZ 3 p.code 0 1]
  | .alu op (.reg r) => [fieldsXYZ 2 op.code r.code]
  | .alu op .atHL => [fieldsXYZ 2 op.code 6]
  | .alu op (.imm n) => [fieldsXYZ 3 op.code 6, n]
  | .incR r => [fieldsXYZ 0 r.code 4]
  | .incAtHL => [fieldsXYZ 0 6 4]
  | .decR r => [fieldsXYZ 0 r.code 5]
  | .decAtHL => [fieldsXYZ 0 6 5]
  | .incRR rr => [fieldsXPQZ 0 rr.code 0 3]
  | .decRR rr => [fieldsXPQZ 0 rr.code 1 3]
  | .addHLRR rr => [fieldsXPQZ 0 rr.code 1 1]
  | .addSPE e => [0xE8, e]
  | .rotA op => [fieldsXYZ 0 op.code 7]
  | .rot op x => [0xCB, fieldsXYZ 0 op.code x.code]
  | .bit n x => [0xCB, fieldsXYZ 1 n.val x.code]
  | .res n x => [0xCB, fieldsXYZ 2 n.val x.code]
  | .set n x => [0xCB, fieldsXYZ 3 n.val x.code]
  | .jr e => [0x18, e]
  | .jrCc cc e => [fieldsXYZ 0 (4 + cc.code) 0, e]
  | .jp nn => withWord 0xC3 nn
  | .jpCc cc nn => withWord (fieldsXYZ 3 cc.code 2) nn
  | .jpHL => [0xE9]
  | .call nn => withWord 0xCD nn
  | .callCc cc nn => withWord (fieldsXYZ 3 cc.code 4) nn
  | .ret => [0xC9]
  | .retCc cc => [fieldsXYZ 3 cc.code 0]
  | .reti => [0xD9]
  | .rst y => [fieldsXYZ 3 y.val 7]
  | .nop => [0x00]
  | .daa => [fieldsXYZ 0 4 7]
  | .cpl => [fieldsXYZ 0 5 7]
  | .scf => [fieldsXYZ 0 6 7]
  | .ccf => [fieldsXYZ 0 7 7]
  | .di => [0xF3]
  | .ei => [0xFB]
  | .halt => [0x76]
  | .stop => [0x10]
  | .illegal b => [b]

/-- The bytes of an instruction (R100, R101). -/
def encode (i : Instr) : List Byte := i.form.bytes

/-- The length of an instruction in bytes. -/
def Instr.length (i : Instr) : Nat := (encode i).length

/-! ### The numbering of spec/opcode_table.json -/

/-- The bytes of an instruction whose bits are `w`, every bit above `nbits` zero, up to the longest instruction (three
bytes). Byte 0 is bits 7..0 and the later bytes count on from it, EXCEPT that the table numbers its 16-bit rows, all of
them CB instructions, with byte 0 as "the high eight bits" (spec/30_encoding.md, before section 1): a number of at most
16 bits whose bits 15..8 are the CB prefix is laid out from the high byte (log entry 25). -/
def tableBytes (nbits w : Nat) : List Byte :=
  let b0 := BitVec.ofNat 8 w
  let b1 := BitVec.ofNat 8 (w / 256)
  let b2 := BitVec.ofNat 8 (w / 65536)
  if nbits ≤ 8 then [b0, 0, 0]
  else if nbits ≤ 16 then (if b1 = 0xCB then [b1, b0, 0] else [b0, b1, 0])
  else [b0, b1, b2]

/-- The instruction the decoder reads from an instruction whose bits are `w`, as the table numbers them. -/
def decodeTableWord (nbits w : Nat) : Option Instr :=
  match decode (tableBytes nbits w) with
  | .ok (i, _) => some i
  | .error _ => none

/-! ### The assembler spelling -/

def Reg8.asm : Reg8 → String
  | .b => "B" | .c => "C" | .d => "D" | .e => "E" | .h => "H" | .l => "L" | .a => "A"

def Reg16.asm : Reg16 → String
  | .bc => "BC" | .de => "DE" | .hl => "HL" | .sp => "SP"

def StackPair.asm : StackPair → String
  | .bc => "BC" | .de => "DE" | .hl => "HL" | .af => "AF"

def Cond.asm : Cond → String
  | .nz => "NZ" | .z => "Z" | .nc => "NC" | .c => "C"

def AluOp.asm : AluOp → String
  | .add => "ADD" | .adc => "ADC" | .sub => "SUB" | .sbc => "SBC"
  | .and => "AND" | .xor => "XOR" | .or => "OR" | .cp => "CP"

def Source8.asm : Source8 → String
  | .reg r => r.asm
  | .atHL => "(HL)"
  | .imm _ => "n"

def Target8.asm : Target8 → String
  | .reg r => r.asm
  | .atHL => "(HL)"

def RotOp.asm : RotOp → String
  | .rlc => "RLC" | .rrc => "RRC" | .rl => "RL" | .rr => "RR"
  | .sla => "SLA" | .sra => "SRA" | .swap => "SWAP" | .srl => "SRL"

def AccRotOp.asm : AccRotOp → String
  | .rlca => "RLCA" | .rrca => "RRCA" | .rla => "RLA" | .rra => "RRA"

/-- The assembler pattern of a form as FB spells it (R113): "a mnemonic, a space, and operands separated by a comma with
no space"; an immediate stands as its operand letter `n`, `e` or `nn`. An illegal byte has no spelling (R109, R114). -/
def Form.asm : Form → Option String
  | .ldRR dst src => some ("LD " ++ dst.asm ++ "," ++ src.asm)
  | .ldRN dst _ => some ("LD " ++ dst.asm ++ ",n")
  | .ldRAtHL dst => some ("LD " ++ dst.asm ++ ",(HL)")
  | .ldAtHLR src => some ("LD (HL)," ++ src.asm)
  | .ldAtHLN _ => some "LD (HL),n"
  | .ldAAtBC => some "LD A,(BC)"
  | .ldAAtDE => some "LD A,(DE)"
  | .ldAAtNN _ => some "LD A,(nn)"
  | .ldAtBCA => some "LD (BC),A"
  | .ldAtDEA => some "LD (DE),A"
  | .ldAtNNA _ => some "LD (nn),A"
  | .ldAAtHLInc => some "LD A,(HL+)"
  | .ldAAtHLDec => some "LD A,(HL-)"
  | .ldAtHLIncA => some "LD (HL+),A"
  | .ldAtHLDecA => some "LD (HL-),A"
  | .ldhAAtN _ => some "LDH A,(n)"
  | .ldhAtNA _ => some "LDH (n),A"
  | .ldhAAtC => some "LDH A,(C)"
  | .ldhAtCA => some "LDH (C),A"
  | .ldRRNN rr _ => some ("LD " ++ rr.asm ++ ",nn")
  | .ldAtNNSP _ => some "LD (nn),SP"
  | .ldSPHL => some "LD SP,HL"
  | .ldHLSPE _ => some "LD HL,SP+e"
  | .push p => some ("PUSH " ++ p.asm)
  | .pop p => some ("POP " ++ p.asm)
  | .alu op x => some (op.asm ++ " A," ++ x.asm)
  | .incR r => some ("INC " ++ r.asm)
  | .incAtHL => some "INC (HL)"
  | .decR r => some ("DEC " ++ r.asm)
  | .decAtHL => some "DEC (HL)"
  | .incRR rr => some ("INC " ++ rr.asm)
  | .decRR rr => some ("DEC " ++ rr.asm)
  | .addHLRR rr => some ("ADD HL," ++ rr.asm)
  | .addSPE _ => some "ADD SP,e"
  | .rotA op => some op.asm
  | .rot op x => some (op.asm ++ " " ++ x.asm)
  | .bit n x => some ("BIT " ++ toString n.val ++ "," ++ x.asm)
  | .res n x => some ("RES " ++ toString n.val ++ "," ++ x.asm)
  | .set n x => some ("SET " ++ toString n.val ++ "," ++ x.asm)
  | .jr _ => some "JR e"
  | .jrCc cc _ => some ("JR " ++ cc.asm ++ ",e")
  | .jp _ => some "JP nn"
  | .jpCc cc _ => some ("JP " ++ cc.asm ++ ",nn")
  | .jpHL => some "JP HL"
  | .call _ => some "CALL nn"
  | .callCc cc _ => some ("CALL " ++ cc.asm ++ ",nn")
  | .ret => some "RET"
  | .retCc cc => some ("RET " ++ cc.asm)
  | .reti => some "RETI"
  | .rst y => some ("RST 0x" ++ (if y.val < 2 then "0" else if y.val < 4 then "1" else if y.val < 6 then "2" else "3")
      ++ (if y.val % 2 = 0 then "0" else "8"))
  | .nop => some "NOP"
  | .daa => some "DAA"
  | .cpl => some "CPL"
  | .scf => some "SCF"
  | .ccf => some "CCF"
  | .di => some "DI"
  | .ei => some "EI"
  | .halt => some "HALT"
  | .stop => some "STOP"
  | .illegal _ => none

/-- The assembler pattern of an instruction (R113, R114). -/
def Instr.asm (i : Instr) : Option String := i.form.asm

/-- A byte as two lowercase hexadecimal digits. -/
def hexByte (o : Byte) : String :=
  String.ofList [Nat.digitChar (o.toNat / 16), Nat.digitChar (o.toNat % 16)]

/-- The name of the conformance file an instruction's vectors stand in (R115). -/
def Instr.vectorFile (i : Instr) : String :=
  match encode i with
  | [0xCB, o2] => "cb " ++ hexByte o2 ++ ".json"
  | o :: _ => hexByte o ++ ".json"
  | [] => ".json"

end Sys2Proof
end

