-- ==== Sys2Proof/Config.lean ====
section
/-! DEFINITION. What the surrounding system fixes (the bus's behaviour) and the free values. Every constant that
the spec leaves open is OPAQUE: nothing can be proved of its value. -/

namespace Sys2Proof

/-- A request of the core to the bus (spec/20_memory.md R50, R54: "Two operations"). -/
inductive BusRequest where
  | read (addr : Word)
  | write (addr : Word) (v : Byte)
deriving DecidableEq, Repr

namespace Config

/-- The byte the flat-RAM bus holds where nothing was written: "reset bus to zeros" (spec/20_memory.md R67). -/
def initialByte : Byte := 0x00

/-- FREE VALUE (R54, D1, U5): the byte an external bus returns for the read request at the head of the list. The
tail is every request made before it, newest first, so any deterministic `BusState` with side effects of reads and
writes is an instance of this function (log entry 2). -/
opaque busValue : List BusRequest → Byte

/-- FREE VALUE (R56, D2, U6): whether an external bus that may fault raises an error for the request at the head of
the list, and what the error carries (log entry 3). -/
opaque busFault : List BusRequest → Option Nat

/-- FREE VALUE (R303, U6): the value of 8-bit register number `k` after the bus error that makes draw `n`
(log entry 4). -/
opaque freeByte (n k : Nat) : Byte

/-- FREE VALUE (R303, U6): the value of SP (`k = 0`) or PC (`k = 1`) after the bus error that makes draw `n`
(log entry 4). -/
opaque freeWord (n k : Nat) : Word

end Config

end Sys2Proof
end

