-- ==== Sys2Proof/Machine/State.lean ====
section
/-! DEFINITION. The state of the core, its bus and its timing hook as plain data; the reasons a step can stop; the
machine right after reset. -/

namespace Sys2Proof.Machine

/-- Flat-RAM memory (spec/20_memory.md R67) in one canonical form: addresses strictly rising, no cell equal to what
an unlisted address reads as. -/
abbrev Memory := List Host.Cell

/-- The direction of a bus access (R71). -/
inductive Direction where
  | read
  | write
deriving DecidableEq, Repr

/-- The bus's last-access record: "address, value, direction" (spec/00_scope.md R11, spec/20_memory.md R67). -/
structure BusAccess where
  addr : Word
  value : Byte
  dir : Direction
deriving DecidableEq, Repr

/-- A tick record (R69): one m-cycle. A read's record carries the value the bus returned (90_conflicts.md C3). -/
inductive Tick where
  | read (addr : Word) (value : Byte)
  | write (addr : Word) (value : Byte)
  | internal
deriving DecidableEq, Repr

/-- Which bus the core is bound to (the model argument `Bus` of R54), with the parameter `busMayFault` of R56. -/
inductive BusKind where
  /-- The flat-RAM bus of R67; it never faults. -/
  | flatRam
  /-- Any other bus: what it answers is open (R54), and it faults only if `mayFault` (R56). -/
  | external (mayFault : Bool)
deriving DecidableEq, Repr

/-- The errors a step can report (spec/60_exceptions.md R300, R303). -/
inductive ErrorKind where
  | illegalOpcode (b : Byte)
  | busError (info : Nat)
deriving DecidableEq, Repr

/-- The machine: the ten values of the snapshot (spec/10_state.md R30), the bus (R54, R67), the timing hook (R68,
R69), the errors recorded (92_eei_decisions.md D3) and whether the core was ever reset (R31). The pairs AF, BC, DE
and HL are views (R21): no field. -/
structure State where
  /-- Register A (R20). -/
  a : Byte
  /-- The flag register F; bits 3..0 are always zero (R22). -/
  f : Byte
  b : Byte
  c : Byte
  d : Byte
  e : Byte
  h : Byte
  l : Byte
  /-- The stack pointer (R24). -/
  sp : Word
  /-- The program counter (R25). -/
  pc : Word
  /-- Which bus (R54, R56, R67). -/
  bus : BusKind
  /-- The flat-RAM bus's bytes (R67). -/
  mem : Memory
  /-- The external bus's state: every request made to it, newest first (R54). -/
  busLog : List BusRequest
  /-- The last-access record (R67, R68); none before the first access. -/
  lastAccess : Option BusAccess
  /-- The tick records of the step, in order (R69). -/
  trace : List Tick
  /-- Whether the optional tick callback is installed (R68). -/
  callback : Bool
  /-- The ticks the callback was invoked at in the step (R68). -/
  observed : List Tick
  /-- Every error recorded so far, newest first: an illegal opcode "stays recorded for the rest of the run" (D3); a bus
  error does so by the model's choice (log entry 31). -/
  errors : List ErrorKind
  /-- Whether a reset has installed register values (R31, D6). -/
  wasReset : Bool
  /-- The MODEL's own: how often free register values were drawn (R303). -/
  draws : Nat
deriving DecidableEq, Repr

/-- Why a step ends with an error. Each carries what the spec gives of the state it leaves (R69:
`Error(kind, state', bus', trace)`), from which the host may step on (R301). -/
inductive Fault where
  /-- Raised by the eleven illegal bytes (R109, R300): the byte, and the state left (PC = PC0 + 1, all else
  unchanged, the error recorded). SAFE: the spec's own error; the run stops where the spec's step ends with it. -/
  | illegalOpcode (b : Byte) (after : State)
  /-- Raised by any access of an external bus that may fault (R56, R303): what the bus says, and the state left, its
  register values free. SAFE: which access faults, and with what, is unconstrained. -/
  | busError (info : Nat) (after : State)
  /-- Raised by a step of a core that was never reset (R31, D6). SAFE: the spec's own decision. -/
  | notReset
deriving DecidableEq, Repr

/-- Why the model gives no meaning. -/
inductive Refusal where
  /-- Raised by exec for an instruction that has no meaning yet. SAFE. No arm of exec is left that does so. -/
  | notModelled (mnemonic : String)
  /-- The error kind "Opcode not implemented" (R302), carrying the bytes. SAFE: the decoder knows every opcode, so no
  step raises it. -/
  | opcodeNotImplemented (bytes : List Byte)
deriving DecidableEq, Repr

/-- The machine right after the reset with the empty snapshot (R30, R330), bound to the flat-RAM bus of R67 with all
bytes zero; no tick yet, no callback, no error recorded. -/
def State.reset : State :=
  { a := 0x00, f := 0x00, b := 0x00, c := 0x00, d := 0x00, e := 0x00, h := 0x00, l := 0x00
    sp := 0x0000, pc := 0x0000
    bus := .flatRam, mem := [], busLog := [], lastAccess := none
    trace := [], callback := false, observed := []
    errors := [], wasReset := true, draws := 0 }

end Sys2Proof.Machine
end

