-- ==== Sys2Proof/Machine/Ops.lean ====
section
/-! DEFINITION. The named operations over memory, registers, the bus, the timing hook and errors; the reset operation
and what else the host does between steps. Every meaning is written over these. -/

namespace Sys2Proof.Machine

/-- What a step or a meaning answers (spec/20_memory.md R69). -/
abbrev Result := Host.Outcome State Fault Refusal

/-! ### Flat-RAM memory (R67) -/

/-- The byte at an address: the one listed there, else what an unlisted address reads as. -/
def Memory.read : Memory → Nat → Byte
  | [], _ => Config.initialByte
  | (k, v) :: rest, x => if k = x then v else Memory.read rest x

/-- Take an address out of the list. -/
def Memory.erase (m : Memory) (x : Nat) : Memory := m.filter (fun cell => cell.1 != x)

/-- Put a cell before the first higher address. -/
def Memory.insert : Memory → Nat → Byte → Memory
  | [], x, v => [(x, v)]
  | (k, w) :: rest, x, v => if x < k then (x, v) :: (k, w) :: rest else (k, w) :: Memory.insert rest x v

/-- "sets the byte at a to v and changes nothing else" (R67), keeping the canonical form: a byte equal to what an
unlisted address reads as is not listed. -/
def Memory.write (m : Memory) (x : Nat) (v : Byte) : Memory :=
  if v = Config.initialByte then Memory.erase m x else Memory.insert (Memory.erase m x) x v

/-- The canonical form: addresses strictly rising and within the 16-bit space (R50), no byte listed that an unlisted
address reads as. -/
abbrev Memory.wf (m : Memory) : Prop :=
  List.Pairwise (fun x y => x.1 < y.1) m ∧ ∀ cell ∈ m, cell.1 < 65536 ∧ cell.2 ≠ Config.initialByte

/-! ### Registers (spec/10_state.md R20 to R25) -/

/-- `reg8[r]` (spec/30_encoding.md R102). -/
def State.reg8 (r : Reg8) (s : State) : Byte :=
  match r with
  | .b => s.b | .c => s.c | .d => s.d | .e => s.e | .h => s.h | .l => s.l | .a => s.a

/-- `reg8[r] <- v`. -/
def State.setReg8 (r : Reg8) (v : Byte) (s : State) : State :=
  match r with
  | .b => { s with b := v } | .c => { s with c := v } | .d => { s with d := v } | .e => { s with e := v }
  | .h => { s with h := v } | .l => { s with l := v } | .a => { s with a := v }

/-- `F <- v` stores `v & 0xF0`: bits 3..0 of F are always zero (R22). Every write of F goes through here. -/
def State.setF (v : Byte) (s : State) : State := { s with f := v &&& 0xF0 }

/-- `SP <- v` (R24). -/
def State.setSP (v : Word) (s : State) : State := { s with sp := v }

/-- `PC <- v` (R25). -/
def State.setPC (v : Word) (s : State) : State := { s with pc := v }

/-- The pair view BC (R21). -/
def State.bc (s : State) : Word := wordOf s.b s.c

/-- The pair view DE (R21). -/
def State.de (s : State) : Word := wordOf s.d s.e

/-- The pair view HL (R21). -/
def State.hl (s : State) : Word := wordOf s.h s.l

/-- The pair view AF (R21): A high, F low. -/
def State.af (s : State) : Word := wordOf s.a s.f

/-- `BC <- v` (R21). -/
def State.setBC (v : Word) (s : State) : State := { s with b := hiByte v, c := loByte v }

/-- `DE <- v` (R21). -/
def State.setDE (v : Word) (s : State) : State := { s with d := hiByte v, e := loByte v }

/-- `HL <- v` (R21). -/
def State.setHL (v : Word) (s : State) : State := { s with h := hiByte v, l := loByte v }

/-- `AF <- v`: F is written through its mask (R21, R22). -/
def State.setAF (v : Word) (s : State) : State := State.setF (loByte v) { s with a := hiByte v }

/-- `reg16[rr]` (R103). -/
def State.reg16 (rr : Reg16) (s : State) : Word :=
  match rr with
  | .bc => s.bc | .de => s.de | .hl => s.hl | .sp => s.sp

/-- `reg16[rr] <- v` (R103). -/
def State.setReg16 (rr : Reg16) (v : Word) (s : State) : State :=
  match rr with
  | .bc => s.setBC v | .de => s.setDE v | .hl => s.setHL v | .sp => s.setSP v

/-- `reg16[rr]` of PUSH and POP (R103). -/
def State.pair (p : StackPair) (s : State) : Word :=
  match p with
  | .bc => s.bc | .de => s.de | .hl => s.hl | .af => s.af

/-- `reg16[rr] <- v` of PUSH and POP (R103, spec/41_loads16.md R176). -/
def State.setPair (p : StackPair) (v : Word) (s : State) : State :=
  match p with
  | .bc => s.setBC v | .de => s.setDE v | .hl => s.setHL v | .af => s.setAF v

/-! ### The timing hook (spec/20_memory.md R51 to R55, R68, R69) -/

/-- One tick: its record joins the trace, and an installed callback is invoked exactly once (R68, R69). The callback
changes nothing (92_eei_decisions.md D9). -/
def State.emit (t : Tick) (s : State) : State :=
  { s with trace := s.trace ++ [t], observed := if s.callback then s.observed ++ [t] else s.observed }

/-- `Internal()`: one tick with no bus access (R53). -/
def State.internal (s : State) : State := s.emit .internal

/-- The start of a step: the trace of a step is the list of the ticks IT emits (R69). -/
def State.beginStep (s : State) : State := { s with trace := [], observed := [] }

/-! ### The bus (R50 to R56) -/

/-- The parameter `busMayFault` (R56); the flat-RAM bus never faults (R67). -/
def State.busMayFault (s : State) : Bool :=
  match s.bus with
  | .flatRam => false
  | .external mayFault => mayFault

/-- The history of an external bus after a request; the flat-RAM bus's state is its bytes. -/
def State.logAfter (q : BusRequest) (s : State) : List BusRequest :=
  match s.bus with
  | .flatRam => s.busLog
  | .external _ => q :: s.busLog

/-- The byte the bus returns for a read (R51, R54): the flat RAM's byte (R67), or whatever the external bus answers. -/
def State.busValue (addr : Word) (s : State) : Byte :=
  match s.bus with
  | .flatRam => Memory.read s.mem addr.toNat
  | .external _ => Config.busValue (.read addr :: s.busLog)

/-- The flat RAM after a write (R67); an external bus keeps its own state. -/
def State.memAfter (addr : Word) (v : Byte) (s : State) : Memory :=
  match s.bus with
  | .flatRam => Memory.write s.mem addr.toNat v
  | .external _ => s.mem

/-- What an external bus that may fault raises for a request, if anything (R56, R303). -/
def State.busFaultInfo (q : BusRequest) (s : State) : Option Nat :=
  if s.busMayFault then Config.busFault (q :: s.busLog) else none

/-- The state after a read that did not fault: the bus has seen it, the last-access record holds it, and its tick is
emitted (R51, R67). -/
def State.afterRead (addr : Word) (s : State) : State :=
  State.emit (.read addr (s.busValue addr))
    { s with busLog := s.logAfter (.read addr), lastAccess := some ⟨addr, s.busValue addr, .read⟩ }

/-- The state after a write that did not fault (R52, R67). -/
def State.afterWrite (addr : Word) (v : Byte) (s : State) : State :=
  State.emit (.write addr v)
    { s with mem := s.memAfter addr v, busLog := s.logAfter (.write addr v), lastAccess := some ⟨addr, v, .write⟩ }

/-! ### Errors (spec/60_exceptions.md) -/

/-- Record an error. That an illegal-opcode error "stays recorded for the rest of the run" is the spec's decision
(92_eei_decisions.md D3); that a bus error does so too is the model's DESIGN CHOICE (log entry 31). -/
def State.recordError (k : ErrorKind) (s : State) : State := { s with errors := k :: s.errors }

/-- The register file after a bus error: every register is a free value (R303), F through its mask (R22). -/
def State.drawRegisters (s : State) : State :=
  { s with
    a := Config.freeByte s.draws 0, f := Config.freeByte s.draws 1 &&& 0xF0
    b := Config.freeByte s.draws 2, c := Config.freeByte s.draws 3
    d := Config.freeByte s.draws 4, e := Config.freeByte s.draws 5
    h := Config.freeByte s.draws 6, l := Config.freeByte s.draws 7
    sp := Config.freeWord s.draws 0, pc := Config.freeWord s.draws 1
    draws := s.draws + 1 }

/-- The state a bus error leaves (R303): "The trace holds the ticks before the faulting access", the register values
are unspecified, the bus has seen the request. That the error also joins `errors` and stays there is the model's
DESIGN CHOICE: D3 says it of the illegal-opcode error only, R303, D2 and U6 say nothing of a record (log entry 31). -/
def State.afterBusError (q : BusRequest) (info : Nat) (s : State) : State :=
  State.recordError (.busError info) (State.drawRegisters { s with busLog := s.logAfter q })

/-- `raise BusFault(info)` (R303): the step ends at the access. -/
def raiseBusError (q : BusRequest) (info : Nat) (s : State) : Result :=
  .fault (.busError info (s.afterBusError q info))

/-- `raise IllegalOpcode(b)` (R300, R305, R306), after the fetch of the byte: the error goes to the host with the state
left. It "saves nothing, changes no mode or mask, touches no stack and transfers control nowhere". -/
def raiseIllegalOpcode (b : Byte) (s : State) : Result :=
  .fault (.illegalOpcode b (s.recordError (.illegalOpcode b)))

/-- The state an error leaves to the host, from which "further `step` calls may continue" (R301, R307). There is no
return-from-error instruction. -/
def Fault.stateLeft : Fault → Option State
  | .illegalOpcode _ s => some s
  | .busError _ s => some s
  | .notReset => none

/-! ### Accesses -/

/-- `MemRead(addr, 1)` (R51), then the rest of the instruction with the byte. -/
def memRead (addr : Word) (s : State) (k : Byte → State → Result) : Result :=
  match s.busFaultInfo (.read addr) with
  | some info => raiseBusError (.read addr) info s
  | none => k (s.busValue addr) (s.afterRead addr)

/-- `MemWrite(addr, 1, v)` (R52), then the rest of the instruction. -/
def memWrite (addr : Word) (v : Byte) (s : State) (k : State → Result) : Result :=
  match s.busFaultInfo (.write addr v) with
  | some info => raiseBusError (.write addr v) info s
  | none => k (s.afterWrite addr v)

/-- `Push16(v)` (spec/41_loads16.md R177): high byte at --SP, then low byte at --SP. -/
def push16 (v : Word) (s : State) (k : State → Result) : Result :=
  let s1 := s.setSP (s.sp - 1)
  memWrite s1.sp (hiByte v) s1 fun s2 =>
    let s3 := s2.setSP (s2.sp - 1)
    memWrite s3.sp (loByte v) s3 k

/-- `Pop16()` (R178): low byte at SP++, then high byte at SP++. -/
def pop16 (s : State) (k : Word → State → Result) : Result :=
  memRead s.sp s fun lo s1 =>
    let s2 := s1.setSP (s1.sp + 1)
    memRead s2.sp s2 fun hi s3 => k (wordOf hi lo) (s3.setSP (s3.sp + 1))

/-! ### What the host does between steps (spec/70_reset_and_hazards.md R330 to R333, R68) -/

/-- A state snapshot with any subset of its ten fields (R330). -/
structure Snapshot where
  a : Option Byte := none
  f : Option Byte := none
  b : Option Byte := none
  c : Option Byte := none
  d : Option Byte := none
  e : Option Byte := none
  h : Option Byte := none
  l : Option Byte := none
  sp : Option Word := none
  pc : Option Word := none
deriving DecidableEq, Repr

/-- The reset operation (R330): every register takes the snapshot's field or zero, F through its mask (D5). "Reset
makes no bus access and emits no tick. It changes no memory and does not install or clear the tick callback." A run
starts with no tick and no error recorded (log entry 19). -/
def State.resetWith (snap : Snapshot) (s : State) : State :=
  { s with
    a := snap.a.getD 0x00, f := snap.f.getD 0x00 &&& 0xF0, b := snap.b.getD 0x00, c := snap.c.getD 0x00
    d := snap.d.getD 0x00, e := snap.e.getD 0x00, h := snap.h.getD 0x00, l := snap.l.getD 0x00
    sp := snap.sp.getD 0x0000, pc := snap.pc.getD 0x0000
    trace := [], observed := [], errors := [], wasReset := true }

/-- "The CPU is constructed bound to a bus" (R333): a core that was never reset. Its registers hold no value a step
can use (R31): a step faults, so what the fields hold here is never read. -/
def State.construct (bus : BusKind) (mem : Memory) : State :=
  { State.reset with bus := bus, mem := mem, wasReset := false }

/-- The host installs the tick callback (R68). -/
def State.installCallback (s : State) : State := { s with callback := true }

/-- The host clears the tick callback (R68). -/
def State.clearCallback (s : State) : State := { s with callback := false }

end Sys2Proof.Machine
end

