-- ==== Sys2Proof/Machine/Flags.lean ====
section
/-! DEFINITION. The flags in F, the condition test, and every computation of a result with its flags. -/

namespace Sys2Proof.Machine

/-- The four flags (spec/10_state.md R23). -/
inductive Flag where
  | z | n | h | c
deriving DecidableEq, Repr

/-- The bit of F a flag is (R23). -/
def Flag.bit : Flag → Nat
  | .z => 7 | .n => 6 | .h => 5 | .c => 4

/-- The mask of a flag in F (R23). -/
def Flag.mask : Flag → Byte
  | .z => 0x80 | .n => 0x40 | .h => 0x20 | .c => 0x10

/-- `flag.X` (R23). -/
def State.flag (x : Flag) (s : State) : Bool := s.f.getLsbD x.bit

/-- `flag.X <- b`: that bit of F, the other bits as they were (R23). -/
def State.setFlag (x : Flag) (b : Bool) (s : State) : State :=
  s.setF (if b then s.f ||| x.mask else s.f &&& ~~~x.mask)

/-- toggle inverts one flag (R23). -/
def State.toggleFlag (x : Flag) (s : State) : State := s.setFlag x (!s.flag x)

/-- `(z<<7) | (n<<6) | (h<<5) | (c<<4)` (R23). -/
def packFlags (z n h c : Bool) : Byte :=
  (if z then 0x80 else 0x00) ||| (if n then 0x40 else 0x00) ||| (if h then 0x20 else 0x00) ||| (if c then 0x10 else 0x00)

/-- `F <- (z<<7) | (n<<6) | (h<<5) | (c<<4)` (R23): all four flags written. -/
def State.setFlags (z n h c : Bool) (s : State) : State := s.setF (packFlags z n h c)

/-- The condition test `cond(cc)` (spec/45_control.md R260). -/
def State.cond (cc : Cond) (s : State) : Bool :=
  match cc with
  | .nz => !s.flag .z
  | .z => s.flag .z
  | .nc => !s.flag .c
  | .c => s.flag .c

/-- An 8-bit result with its four flags. -/
structure AluOut where
  res : Byte
  z : Bool
  n : Bool
  h : Bool
  c : Bool
deriving DecidableEq, Repr

/-- `Add8(a, x, cin)` (spec/42_alu8.md R191), on unbounded integers. -/
def add8 (a x : Byte) (cin : Bool) : AluOut :=
  let sum := a.toNat + x.toNat + cin.toNat
  let res := BitVec.ofNat 8 sum
  { res := res, z := res == 0, n := false
    h := decide (a.toNat % 16 + x.toNat % 16 + cin.toNat > 0x0F)
    c := decide (sum > 0xFF) }

/-- `Sub8(a, x, cin)` (R192). -/
def sub8 (a x : Byte) (cin : Bool) : AluOut :=
  let res := a - x - BitVec.ofNat 8 cin.toNat
  { res := res, z := res == 0, n := true
    h := decide (x.toNat % 16 + cin.toNat > a.toNat % 16)
    c := decide (x.toNat + cin.toNat > a.toNat) }

/-- A logical result: Z computed, N = 0, H as the operation says, C = 0 (R197 to R199). -/
def logic8 (res : Byte) (h : Bool) : AluOut := { res := res, z := res == 0, n := false, h := h, c := false }

/-- The eight ALU operations on A, x and Cin (R193 to R200). -/
def aluOut (op : AluOp) (a x : Byte) (cin : Bool) : AluOut :=
  match op with
  | .add => add8 a x false
  | .adc => add8 a x cin
  | .sub => sub8 a x false
  | .sbc => sub8 a x cin
  | .and => logic8 (a &&& x) true
  | .xor => logic8 (a ^^^ x) false
  | .or => logic8 (a ||| x) false
  | .cp => sub8 a x false

/-- The flags of INC (R201, R202): Z and H of the result, N = 0, C preserved. -/
def State.setIncFlags (res : Byte) (s : State) : State :=
  ((s.setFlag .z (res == 0)).setFlag .n false).setFlag .h (res &&& 0x0F == 0x00)

/-- The flags of DEC (R203, R204): Z and H of the result, N = 1, C preserved. -/
def State.setDecFlags (res : Byte) (s : State) : State :=
  ((s.setFlag .z (res == 0)).setFlag .n true).setFlag .h (res &&& 0x0F == 0x0F)

/-- `AddSPe(e)` (spec/41_loads16.md R170): the sum, the half-carry and the carry of the low byte, as bits 4 and 8 of
`SP ^ s ^ res` (90_conflicts.md C4). -/
def addSPe (sp : Word) (e : Byte) : Word × Bool × Bool :=
  let res := sp + sext16 e
  let t := sp ^^^ sext16 e ^^^ res
  (res, t.getLsbD 4, t.getLsbD 8)

/-- The carry out of bit 11 of a 16-bit sum (spec/43_alu16.md R222). -/
def halfCarry16 (a v : Word) : Bool := decide (a.toNat % 0x1000 + v.toNat % 0x1000 > 0x0FFF)

/-- The carry out of bit 15 of a 16-bit sum (R222). -/
def carry16 (a v : Word) : Bool := decide (a.toNat + v.toNat > 0xFFFF)

/-- A bit as the byte 0 or 1. -/
def bitByte (b : Bool) : Byte := if b then 0x01 else 0x00

/-- The CB rotates and shifts (spec/44_rotate_shift_bit.md R235 to R242): the result and the ejected bit. -/
def rotOut (op : RotOp) (v : Byte) (cin : Bool) : Byte × Bool :=
  match op with
  | .rlc => ((v <<< 1) ||| bitByte (v.getLsbD 7), v.getLsbD 7)
  | .rrc => ((v >>> 1) ||| (bitByte (v.getLsbD 0) <<< 7), v.getLsbD 0)
  | .rl => ((v <<< 1) ||| bitByte cin, v.getLsbD 7)
  | .rr => ((v >>> 1) ||| (bitByte cin <<< 7), v.getLsbD 0)
  | .sla => (v <<< 1, v.getLsbD 7)
  | .sra => ((v >>> 1) ||| (v &&& 0x80), v.getLsbD 0)
  | .swap => (((v &&& 0x0F) <<< 4) ||| (v >>> 4), false)
  | .srl => (v >>> 1, v.getLsbD 0)

/-- The rotates on A (R230 to R233). -/
def accRotOut (op : AccRotOp) (v : Byte) (cin : Bool) : Byte × Bool :=
  match op with
  | .rlca => ((v <<< 1) ||| bitByte (v.getLsbD 7), v.getLsbD 7)
  | .rrca => ((v >>> 1) ||| (bitByte (v.getLsbD 0) <<< 7), v.getLsbD 0)
  | .rla => ((v <<< 1) ||| bitByte cin, v.getLsbD 7)
  | .rra => ((v >>> 1) ||| (bitByte cin <<< 7), v.getLsbD 0)

/-- `1 << b` (R244, R245). -/
def bitMask (n : Fin 8) : Byte := (0x01 : Byte) <<< n.val

/-- DAA (spec/46_misc.md R281): the result and C, from A and the flags N, H, C. Both tests of the addition case look at
the A the instruction started with (92_eei_decisions.md D11). -/
def daaOut (a : Byte) (n h c : Bool) : Byte × Bool :=
  if n then
    (a - ((if h then 0x06 else 0x00) ||| (if c then 0x60 else 0x00)), c)
  else
    let low := h || decide (a.toNat % 16 > 0x09)
    let high := c || decide (a.toNat > 0x99)
    (a + ((if low then 0x06 else 0x00) ||| (if high then 0x60 else 0x00)), high)

end Sys2Proof.Machine
end

