-- ==== Sys2Proof/Machine/Alu16.lean ====
section
/-! DEFINITION. 16-bit arithmetic (spec/43_alu16.md R220 to R223). -/

namespace Sys2Proof.Machine

/-! ### The operations -/

/-- `Internal(); reg16[pp] <- (reg16[pp] + 1) mod 2^16` (R220). -/
def incPair (rr : Reg16) (s : State) : Result := .next (s.internal.setReg16 rr (s.reg16 rr + 1))

/-- `Internal(); reg16[pp] <- (reg16[pp] - 1) mod 2^16` (R221). -/
def decPair (rr : Reg16) (s : State) : Result := .next (s.internal.setReg16 rr (s.reg16 rr - 1))

/-- ADD HL,rr (R222): Z preserved, N = 0, H the carry out of bit 11, C the carry out of bit 15. -/
def addHLPair (rr : Reg16) (s : State) : Result :=
  let t := s.internal.setHL (s.hl + s.reg16 rr)
  .next (((t.setFlag .n false).setFlag .h (halfCarry16 s.hl (s.reg16 rr))).setFlag .c (carry16 s.hl (s.reg16 rr)))

/-- ADD SP,e (R223): two internal ticks; `SP <- res; F <- (h<<5) | (c<<4)`. -/
def addSPImm (e : Byte) (s : State) : Result :=
  let (res, h, c) := addSPe s.sp e
  .next ((s.internal.internal.setSP res).setFlags false false h c)

/-! ### One meaning per instruction -/

/-- INC BC (R220). -/
def execInc_bc (s : State) : Result := incPair .bc s
/-- ADD HL,BC (R222). -/
def execAdd_hl_bc (s : State) : Result := addHLPair .bc s
/-- DEC BC (R221). -/
def execDec_bc (s : State) : Result := decPair .bc s
/-- INC DE (R220). -/
def execInc_de (s : State) : Result := incPair .de s
/-- ADD HL,DE (R222). -/
def execAdd_hl_de (s : State) : Result := addHLPair .de s
/-- DEC DE (R221). -/
def execDec_de (s : State) : Result := decPair .de s
/-- INC HL (R220). -/
def execInc_hl (s : State) : Result := incPair .hl s
/-- ADD HL,HL (R222). -/
def execAdd_hl_hl (s : State) : Result := addHLPair .hl s
/-- DEC HL (R221). -/
def execDec_hl (s : State) : Result := decPair .hl s
/-- INC SP (R220). -/
def execInc_sp (s : State) : Result := incPair .sp s
/-- ADD HL,SP (R222). -/
def execAdd_hl_sp (s : State) : Result := addHLPair .sp s
/-- DEC SP (R221). -/
def execDec_sp (s : State) : Result := decPair .sp s
/-- ADD SP,e (R223). -/
def execAdd_sp_e (e : Byte) (s : State) : Result := addSPImm e s

end Sys2Proof.Machine
end

