-- ==== Sys2Proof/Machine/Operands.lean ====
section
/-! DEFINITION. The operand forms: the three sources of an ALU operand, the two targets of a CB instruction, the
high-page addresses. -/

namespace Sys2Proof.Machine

/-- The second operand x of an 8-bit ALU instruction (spec/42_alu8.md R190): a register, the byte at HL, or the
immediate. "The read of x is the only bus access after the fetch." -/
def readSource (x : Source8) (s : State) (k : Byte → State → Result) : Result :=
  match x with
  | .reg r => k (s.reg8 r) s
  | .atHL => memRead s.hl s k
  | .imm n => k n s

/-- The byte an ALU operand stands for (R190), under a bus that does not fault. -/
def State.sourceValue (x : Source8) (s : State) : Byte :=
  match x with
  | .reg r => s.reg8 r
  | .atHL => s.busValue s.hl
  | .imm n => n

/-- The ticks of reading an ALU operand after the fetch (R190). -/
def State.sourceTicks (x : Source8) (s : State) : List Tick :=
  match x with
  | .reg _ => []
  | .atHL => [.read s.hl (s.busValue s.hl)]
  | .imm _ => []

/-- The read of a CB target (spec/44_rotate_shift_bit.md R234). -/
def readTarget (x : Target8) (s : State) (k : Byte → State → Result) : Result :=
  match x with
  | .reg r => k (s.reg8 r) s
  | .atHL => memRead s.hl s k

/-- The byte of a CB target (R234), under a bus that does not fault. -/
def State.targetValue (x : Target8) (s : State) : Byte :=
  match x with
  | .reg r => s.reg8 r
  | .atHL => s.busValue s.hl

/-- The ticks of reading a CB target after the two fetches (R234). -/
def State.targetTicks (x : Target8) (s : State) : List Tick :=
  match x with
  | .reg _ => []
  | .atHL => [.read s.hl (s.busValue s.hl)]

/-- `Write(res)`: the write-back of a CB target (R234), "to the address read". -/
def writeTarget (x : Target8) (v : Byte) (s : State) (k : State → Result) : Result :=
  match x with
  | .reg r => k (s.setReg8 r v)
  | .atHL => memWrite s.hl v s k

/-- The high-page address `0xFF00 + n` (spec/20_memory.md R61), n unsigned. -/
def highPage (n : Byte) : Word := 0xFF00 + n.setWidth 16

end Sys2Proof.Machine
end

