-- ==== Sys2Proof/Machine/Alu8.lean ====
section
/-! DEFINITION. 8-bit arithmetic and logic (spec/42_alu8.md R190 to R204). -/

namespace Sys2Proof.Machine

/-! ### The operations -/

/-- `x <- operand; (res, z, n, h, c) <- op; A <- res; F <- (z<<7) | (n<<6) | (h<<5) | (c<<4)` (R193 to R199). -/
def aluA (op : AluOp) (x : Source8) (s : State) : Result :=
  readSource x s fun v t =>
    let out := aluOut op s.a v (s.flag .c)
    .next ((t.setReg8 .a out.res).setFlags out.z out.n out.h out.c)

/-- CP: as SUB, but "A is not written" (R200). -/
def compareA (x : Source8) (s : State) : Result :=
  readSource x s fun v t =>
    let out := aluOut .cp s.a v (s.flag .c)
    .next (t.setFlags out.z out.n out.h out.c)

/-- INC r (R201). -/
def incReg (r : Reg8) (s : State) : Result :=
  .next ((s.setReg8 r (s.reg8 r + 1)).setIncFlags (s.reg8 r + 1))

/-- INC (HL) (R202): the write goes to the same address as the read. -/
def incAtHL (s : State) : Result :=
  memRead s.hl s fun v t => memWrite s.hl (v + 1) t fun u => .next (u.setIncFlags (v + 1))

/-- DEC r (R203). -/
def decReg (r : Reg8) (s : State) : Result :=
  .next ((s.setReg8 r (s.reg8 r - 1)).setDecFlags (s.reg8 r - 1))

/-- DEC (HL) (R204). -/
def decAtHL (s : State) : Result :=
  memRead s.hl s fun v t => memWrite s.hl (v - 1) t fun u => .next (u.setDecFlags (v - 1))

/-! ### One meaning per instruction -/

/-- INC B (R201). -/
def execInc_b (s : State) : Result := incReg .b s
/-- DEC B (R203). -/
def execDec_b (s : State) : Result := decReg .b s
/-- INC C (R201). -/
def execInc_c (s : State) : Result := incReg .c s
/-- DEC C (R203). -/
def execDec_c (s : State) : Result := decReg .c s
/-- INC D (R201). -/
def execInc_d (s : State) : Result := incReg .d s
/-- DEC D (R203). -/
def execDec_d (s : State) : Result := decReg .d s
/-- INC E (R201). -/
def execInc_e (s : State) : Result := incReg .e s
/-- DEC E (R203). -/
def execDec_e (s : State) : Result := decReg .e s
/-- INC H (R201). -/
def execInc_h (s : State) : Result := incReg .h s
/-- DEC H (R203). -/
def execDec_h (s : State) : Result := decReg .h s
/-- INC L (R201). -/
def execInc_l (s : State) : Result := incReg .l s
/-- DEC L (R203). -/
def execDec_l (s : State) : Result := decReg .l s
/-- INC (HL) (R202). -/
def execInc_atHL (s : State) : Result := incAtHL s
/-- DEC (HL) (R204). -/
def execDec_atHL (s : State) : Result := decAtHL s
/-- INC A (R201). -/
def execInc_a (s : State) : Result := incReg .a s
/-- DEC A (R203). -/
def execDec_a (s : State) : Result := decReg .a s
/-- ADD A,B (R193). -/
def execAdd_a_b (s : State) : Result := aluA .add (.reg .b) s
/-- ADD A,C (R193). -/
def execAdd_a_c (s : State) : Result := aluA .add (.reg .c) s
/-- ADD A,D (R193). -/
def execAdd_a_d (s : State) : Result := aluA .add (.reg .d) s
/-- ADD A,E (R193). -/
def execAdd_a_e (s : State) : Result := aluA .add (.reg .e) s
/-- ADD A,H (R193). -/
def execAdd_a_h (s : State) : Result := aluA .add (.reg .h) s
/-- ADD A,L (R193). -/
def execAdd_a_l (s : State) : Result := aluA .add (.reg .l) s
/-- ADD A,(HL) (R193). -/
def execAdd_a_atHL (s : State) : Result := aluA .add .atHL s
/-- ADD A,A (R193). -/
def execAdd_a_a (s : State) : Result := aluA .add (.reg .a) s
/-- ADC A,B (R194). -/
def execAdc_a_b (s : State) : Result := aluA .adc (.reg .b) s
/-- ADC A,C (R194). -/
def execAdc_a_c (s : State) : Result := aluA .adc (.reg .c) s
/-- ADC A,D (R194). -/
def execAdc_a_d (s : State) : Result := aluA .adc (.reg .d) s
/-- ADC A,E (R194). -/
def execAdc_a_e (s : State) : Result := aluA .adc (.reg .e) s
/-- ADC A,H (R194). -/
def execAdc_a_h (s : State) : Result := aluA .adc (.reg .h) s
/-- ADC A,L (R194). -/
def execAdc_a_l (s : State) : Result := aluA .adc (.reg .l) s
/-- ADC A,(HL) (R194). -/
def execAdc_a_atHL (s : State) : Result := aluA .adc .atHL s
/-- ADC A,A (R194). -/
def execAdc_a_a (s : State) : Result := aluA .adc (.reg .a) s
/-- SUB A,B (R195). -/
def execSub_a_b (s : State) : Result := aluA .sub (.reg .b) s
/-- SUB A,C (R195). -/
def execSub_a_c (s : State) : Result := aluA .sub (.reg .c) s
/-- SUB A,D (R195). -/
def execSub_a_d (s : State) : Result := aluA .sub (.reg .d) s
/-- SUB A,E (R195). -/
def execSub_a_e (s : State) : Result := aluA .sub (.reg .e) s
/-- SUB A,H (R195). -/
def execSub_a_h (s : State) : Result := aluA .sub (.reg .h) s
/-- SUB A,L (R195). -/
def execSub_a_l (s : State) : Result := aluA .sub (.reg .l) s
/-- SUB A,(HL) (R195). -/
def execSub_a_atHL (s : State) : Result := aluA .sub .atHL s
/-- SUB A,A (R195). -/
def execSub_a_a (s : State) : Result := aluA .sub (.reg .a) s
/-- SBC A,B (R196). -/
def execSbc_a_b (s : State) : Result := aluA .sbc (.reg .b) s
/-- SBC A,C (R196). -/
def execSbc_a_c (s : State) : Result := aluA .sbc (.reg .c) s
/-- SBC A,D (R196). -/
def execSbc_a_d (s : State) : Result := aluA .sbc (.reg .d) s
/-- SBC A,E (R196). -/
def execSbc_a_e (s : State) : Result := aluA .sbc (.reg .e) s
/-- SBC A,H (R196). -/
def execSbc_a_h (s : State) : Result := aluA .sbc (.reg .h) s
/-- SBC A,L (R196). -/
def execSbc_a_l (s : State) : Result := aluA .sbc (.reg .l) s
/-- SBC A,(HL) (R196). -/
def execSbc_a_atHL (s : State) : Result := aluA .sbc .atHL s
/-- SBC A,A (R196). -/
def execSbc_a_a (s : State) : Result := aluA .sbc (.reg .a) s
/-- AND A,B (R197). -/
def execAnd_a_b (s : State) : Result := aluA .and (.reg .b) s
/-- AND A,C (R197). -/
def execAnd_a_c (s : State) : Result := aluA .and (.reg .c) s
/-- AND A,D (R197). -/
def execAnd_a_d (s : State) : Result := aluA .and (.reg .d) s
/-- AND A,E (R197). -/
def execAnd_a_e (s : State) : Result := aluA .and (.reg .e) s
/-- AND A,H (R197). -/
def execAnd_a_h (s : State) : Result := aluA .and (.reg .h) s
/-- AND A,L (R197). -/
def execAnd_a_l (s : State) : Result := aluA .and (.reg .l) s
/-- AND A,(HL) (R197). -/
def execAnd_a_atHL (s : State) : Result := aluA .and .atHL s
/-- AND A,A (R197). -/
def execAnd_a_a (s : State) : Result := aluA .and (.reg .a) s
/-- XOR A,B (R198). -/
def execXor_a_b (s : State) : Result := aluA .xor (.reg .b) s
/-- XOR A,C (R198). -/
def execXor_a_c (s : State) : Result := aluA .xor (.reg .c) s
/-- XOR A,D (R198). -/
def execXor_a_d (s : State) : Result := aluA .xor (.reg .d) s
/-- XOR A,E (R198). -/
def execXor_a_e (s : State) : Result := aluA .xor (.reg .e) s
/-- XOR A,H (R198). -/
def execXor_a_h (s : State) : Result := aluA .xor (.reg .h) s
/-- XOR A,L (R198). -/
def execXor_a_l (s : State) : Result := aluA .xor (.reg .l) s
/-- XOR A,(HL) (R198). -/
def execXor_a_atHL (s : State) : Result := aluA .xor .atHL s
/-- XOR A,A (R198). -/
def execXor_a_a (s : State) : Result := aluA .xor (.reg .a) s
/-- OR A,B (R199). -/
def execOr_a_b (s : State) : Result := aluA .or (.reg .b) s
/-- OR A,C (R199). -/
def execOr_a_c (s : State) : Result := aluA .or (.reg .c) s
/-- OR A,D (R199). -/
def execOr_a_d (s : State) : Result := aluA .or (.reg .d) s
/-- OR A,E (R199). -/
def execOr_a_e (s : State) : Result := aluA .or (.reg .e) s
/-- OR A,H (R199). -/
def execOr_a_h (s : State) : Result := aluA .or (.reg .h) s
/-- OR A,L (R199). -/
def execOr_a_l (s : State) : Result := aluA .or (.reg .l) s
/-- OR A,(HL) (R199). -/
def execOr_a_atHL (s : State) : Result := aluA .or .atHL s
/-- OR A,A (R199). -/
def execOr_a_a (s : State) : Result := aluA .or (.reg .a) s
/-- CP A,B (R200). -/
def execCp_a_b (s : State) : Result := compareA (.reg .b) s
/-- CP A,C (R200). -/
def execCp_a_c (s : State) : Result := compareA (.reg .c) s
/-- CP A,D (R200). -/
def execCp_a_d (s : State) : Result := compareA (.reg .d) s
/-- CP A,E (R200). -/
def execCp_a_e (s : State) : Result := compareA (.reg .e) s
/-- CP A,H (R200). -/
def execCp_a_h (s : State) : Result := compareA (.reg .h) s
/-- CP A,L (R200). -/
def execCp_a_l (s : State) : Result := compareA (.reg .l) s
/-- CP A,(HL) (R200). -/
def execCp_a_atHL (s : State) : Result := compareA .atHL s
/-- CP A,A (R200). -/
def execCp_a_a (s : State) : Result := compareA (.reg .a) s
/-- ADD A,n (R193). -/
def execAdd_a_n (n : Byte) (s : State) : Result := aluA .add (.imm n) s
/-- ADC A,n (R194). -/
def execAdc_a_n (n : Byte) (s : State) : Result := aluA .adc (.imm n) s
/-- SUB A,n (R195). -/
def execSub_a_n (n : Byte) (s : State) : Result := aluA .sub (.imm n) s
/-- SBC A,n (R196). -/
def execSbc_a_n (n : Byte) (s : State) : Result := aluA .sbc (.imm n) s
/-- AND A,n (R197). -/
def execAnd_a_n (n : Byte) (s : State) : Result := aluA .and (.imm n) s
/-- XOR A,n (R198). -/
def execXor_a_n (n : Byte) (s : State) : Result := aluA .xor (.imm n) s
/-- OR A,n (R199). -/
def execOr_a_n (n : Byte) (s : State) : Result := aluA .or (.imm n) s
/-- CP A,n (R200). -/
def execCp_a_n (n : Byte) (s : State) : Result := compareA (.imm n) s

end Sys2Proof.Machine
end

