-- ==== Sys2Proof/Machine/Control.lean ====
section
/-! DEFINITION. Control flow (spec/45_control.md R261 to R271). PC is the address after the instruction when a meaning
starts; no meaning here changes a flag. -/

namespace Sys2Proof.Machine

/-! ### The operations -/

/-- `Internal(); PC <- (PC + sext_16(e)) mod 2^16` (R261). -/
def jumpRelative (e : Byte) (s : State) : Result := .next (s.internal.setPC (s.pc + sext16 e))

/-- `if cond(cc): Internal(); PC <- (PC + sext_16(e)) mod 2^16` (R262). -/
def jumpRelativeIf (cc : Cond) (e : Byte) (s : State) : Result :=
  if s.cond cc then jumpRelative e s else .next s

/-- `Internal(); PC <- nn` (R263). -/
def jumpTo (nn : Word) (s : State) : Result := .next (s.internal.setPC nn)

/-- `if cond(cc): Internal(); PC <- nn` (R264). -/
def jumpIf (cc : Cond) (nn : Word) (s : State) : Result := if s.cond cc then jumpTo nn s else .next s

/-- `PC <- HL` (R265): no memory is read at HL. -/
def jumpHL (s : State) : Result := .next (s.setPC s.hl)

/-- `Internal(); Push16(PC); PC <- nn` (R266, R271). -/
def callTo (nn : Word) (s : State) : Result := push16 s.pc s.internal fun t => .next (t.setPC nn)

/-- `if cond(cc): Internal(); Push16(PC); PC <- nn` (R267). -/
def callIf (cc : Cond) (nn : Word) (s : State) : Result := if s.cond cc then callTo nn s else .next s

/-- `v <- Pop16(); Internal(); PC <- v` (R268, R270). -/
def returnFromCall (s : State) : Result := pop16 s fun v t => .next (t.internal.setPC v)

/-- `Internal(); if cond(cc): v <- Pop16(); Internal(); PC <- v` (R269). -/
def returnIf (cc : Cond) (s : State) : Result :=
  if s.cond cc then returnFromCall s.internal else .next s.internal

/-- The restart target `t = y * 8` (R106, R271). -/
def restartTarget (y : Fin 8) : Word := BitVec.ofNat 16 (8 * y.val)

/-! ### One meaning per instruction -/

/-- JR e (R261). -/
def execJr_e (e : Byte) (s : State) : Result := jumpRelative e s
/-- JR NZ,e (R262). -/
def execJr_nz_e (e : Byte) (s : State) : Result := jumpRelativeIf .nz e s
/-- JR Z,e (R262). -/
def execJr_z_e (e : Byte) (s : State) : Result := jumpRelativeIf .z e s
/-- JR NC,e (R262). -/
def execJr_nc_e (e : Byte) (s : State) : Result := jumpRelativeIf .nc e s
/-- JR C,e (R262). -/
def execJr_c_e (e : Byte) (s : State) : Result := jumpRelativeIf .c e s
/-- RET NZ (R269). -/
def execRet_nz (s : State) : Result := returnIf .nz s
/-- JP NZ,nn (R264). -/
def execJp_nz_nn (nn : Word) (s : State) : Result := jumpIf .nz nn s
/-- JP nn (R263). -/
def execJp_nn (nn : Word) (s : State) : Result := jumpTo nn s
/-- CALL NZ,nn (R267). -/
def execCall_nz_nn (nn : Word) (s : State) : Result := callIf .nz nn s
/-- RST 0x00 (R271). -/
def execRst_00 (s : State) : Result := callTo (restartTarget 0) s
/-- RET Z (R269). -/
def execRet_z (s : State) : Result := returnIf .z s
/-- RET (R268). -/
def execRet (s : State) : Result := returnFromCall s
/-- JP Z,nn (R264). -/
def execJp_z_nn (nn : Word) (s : State) : Result := jumpIf .z nn s
/-- CALL Z,nn (R267). -/
def execCall_z_nn (nn : Word) (s : State) : Result := callIf .z nn s
/-- CALL nn (R266). -/
def execCall_nn (nn : Word) (s : State) : Result := callTo nn s
/-- RST 0x08 (R271). -/
def execRst_08 (s : State) : Result := callTo (restartTarget 1) s
/-- RET NC (R269). -/
def execRet_nc (s : State) : Result := returnIf .nc s
/-- JP NC,nn (R264). -/
def execJp_nc_nn (nn : Word) (s : State) : Result := jumpIf .nc nn s
/-- CALL NC,nn (R267). -/
def execCall_nc_nn (nn : Word) (s : State) : Result := callIf .nc nn s
/-- RST 0x10 (R271). -/
def execRst_10 (s : State) : Result := callTo (restartTarget 2) s
/-- RET C (R269). -/
def execRet_c (s : State) : Result := returnIf .c s
/-- RETI (R270). -/
def execReti (s : State) : Result := returnFromCall s
/-- JP C,nn (R264). -/
def execJp_c_nn (nn : Word) (s : State) : Result := jumpIf .c nn s
/-- CALL C,nn (R267). -/
def execCall_c_nn (nn : Word) (s : State) : Result := callIf .c nn s
/-- RST 0x18 (R271). -/
def execRst_18 (s : State) : Result := callTo (restartTarget 3) s
/-- RST 0x20 (R271). -/
def execRst_20 (s : State) : Result := callTo (restartTarget 4) s
/-- JP HL (R265). -/
def execJp_hl (s : State) : Result := jumpHL s
/-- RST 0x28 (R271). -/
def execRst_28 (s : State) : Result := callTo (restartTarget 5) s
/-- RST 0x30 (R271). -/
def execRst_30 (s : State) : Result := callTo (restartTarget 6) s
/-- RST 0x38 (R271). -/
def execRst_38 (s : State) : Result := callTo (restartTarget 7) s

end Sys2Proof.Machine
end

