-- ==== Sys2Proof/Machine/Illegal.lean ====
section
/-! DEFINITION. The eleven illegal bytes (spec/30_encoding.md R109, spec/60_exceptions.md R300): each raises the error with
its byte. -/

namespace Sys2Proof.Machine

/-- ILLEGAL 0xD3 (R300). -/
def execIllegal_D3 (s : State) : Result := raiseIllegalOpcode 0xD3 s
/-- ILLEGAL 0xDB (R300). -/
def execIllegal_DB (s : State) : Result := raiseIllegalOpcode 0xDB s
/-- ILLEGAL 0xDD (R300). -/
def execIllegal_DD (s : State) : Result := raiseIllegalOpcode 0xDD s
/-- ILLEGAL 0xE3 (R300). -/
def execIllegal_E3 (s : State) : Result := raiseIllegalOpcode 0xE3 s
/-- ILLEGAL 0xE4 (R300). -/
def execIllegal_E4 (s : State) : Result := raiseIllegalOpcode 0xE4 s
/-- ILLEGAL 0xEB (R300). -/
def execIllegal_EB (s : State) : Result := raiseIllegalOpcode 0xEB s
/-- ILLEGAL 0xEC (R300). -/
def execIllegal_EC (s : State) : Result := raiseIllegalOpcode 0xEC s
/-- ILLEGAL 0xED (R300). -/
def execIllegal_ED (s : State) : Result := raiseIllegalOpcode 0xED s
/-- ILLEGAL 0xF4 (R300). -/
def execIllegal_F4 (s : State) : Result := raiseIllegalOpcode 0xF4 s
/-- ILLEGAL 0xFC (R300). -/
def execIllegal_FC (s : State) : Result := raiseIllegalOpcode 0xFC s
/-- ILLEGAL 0xFD (R300). -/
def execIllegal_FD (s : State) : Result := raiseIllegalOpcode 0xFD s

end Sys2Proof.Machine
end

