-- ==== Sys2Proof/Machine/Loads16.lean ====
section
/-! DEFINITION. The 16-bit loads and the stack (spec/41_loads16.md R171 to R176). -/

namespace Sys2Proof.Machine

/-! ### The operations -/

/-- `reg16[pp] <- nn` (R171). -/
def loadPairImm (rr : Reg16) (nn : Word) (s : State) : Result := .next (s.setReg16 rr nn)

/-- `MemWrite(nn, 1, SP[7:0]); MemWrite((nn + 1) mod 2^16, 1, SP[15:8])` (R172). -/
def storeSPAt (nn : Word) (s : State) : Result :=
  memWrite nn (loByte s.sp) s fun t => memWrite (nn + 1) (hiByte s.sp) t .next

/-- `Internal(); SP <- HL` (R173). -/
def loadSPHL (s : State) : Result := .next (s.internal.setSP s.hl)

/-- `(res, h, c) <- AddSPe(e); Internal(); HL <- res; F <- (h<<5) | (c<<4)` (R174). -/
def loadHLSPE (e : Byte) (s : State) : Result :=
  let (res, h, c) := addSPe s.sp e
  .next ((s.internal.setHL res).setFlags false false h c)

/-- `v <- reg16[pp]; Internal(); Push16(v)` (R175). -/
def pushPair (p : StackPair) (s : State) : Result := push16 (s.pair p) s.internal .next

/-- `v <- Pop16(); reg16[pp] <- v` (R176). -/
def popPair (p : StackPair) (s : State) : Result := pop16 s fun v t => .next (t.setPair p v)

/-! ### One meaning per instruction -/

/-- LD BC,nn (R171). -/
def execLd_bc_nn (nn : Word) (s : State) : Result := loadPairImm .bc nn s
/-- LD (nn),SP (R172). -/
def execLd_atNN_sp (nn : Word) (s : State) : Result := storeSPAt nn s
/-- LD DE,nn (R171). -/
def execLd_de_nn (nn : Word) (s : State) : Result := loadPairImm .de nn s
/-- LD HL,nn (R171). -/
def execLd_hl_nn (nn : Word) (s : State) : Result := loadPairImm .hl nn s
/-- LD SP,nn (R171). -/
def execLd_sp_nn (nn : Word) (s : State) : Result := loadPairImm .sp nn s
/-- POP BC (R176). -/
def execPop_bc (s : State) : Result := popPair .bc s
/-- PUSH BC (R175). -/
def execPush_bc (s : State) : Result := pushPair .bc s
/-- POP DE (R176). -/
def execPop_de (s : State) : Result := popPair .de s
/-- PUSH DE (R175). -/
def execPush_de (s : State) : Result := pushPair .de s
/-- POP HL (R176). -/
def execPop_hl (s : State) : Result := popPair .hl s
/-- PUSH HL (R175). -/
def execPush_hl (s : State) : Result := pushPair .hl s
/-- POP AF (R176). -/
def execPop_af (s : State) : Result := popPair .af s
/-- PUSH AF (R175). -/
def execPush_af (s : State) : Result := pushPair .af s
/-- LD HL,SP+e (R174). -/
def execLd_hl_spPlusE (e : Byte) (s : State) : Result := loadHLSPE e s
/-- LD SP,HL (R173). -/
def execLd_sp_hl (s : State) : Result := loadSPHL s

end Sys2Proof.Machine
end

