-- ==== Sys2Proof/Machine/Loads8.lean ====
section
/-! DEFINITION. The 8-bit loads (spec/40_loads8.md R140 to R158). None changes a flag. -/

namespace Sys2Proof.Machine

/-! ### The operations -/

/-- `reg8[d] <- reg8[s]` (R140). -/
def loadRegReg (dst src : Reg8) (s : State) : Result := .next (s.setReg8 dst (s.reg8 src))

/-- `reg8[d] <- n` (R141). -/
def loadRegImm (dst : Reg8) (n : Byte) (s : State) : Result := .next (s.setReg8 dst n)

/-- `v <- MemRead(addr, 1); reg8[d] <- v` (R142, R145 to R147, R155, R157). -/
def loadRegAt (dst : Reg8) (addr : Word) (s : State) : Result :=
  memRead addr s fun v t => .next (t.setReg8 dst v)

/-- `MemWrite(addr, 1, v)` (R143, R144, R148 to R150, R156, R158). -/
def storeAt (addr : Word) (v : Byte) (s : State) : Result := memWrite addr v s .next

/-- `addr <- HL; A <- MemRead(addr, 1); HL <- (addr + delta) mod 2^16` (R151, R152). -/
def loadAStepHL (delta : Word) (s : State) : Result :=
  memRead s.hl s fun v t => .next ((t.setReg8 .a v).setHL (s.hl + delta))

/-- `addr <- HL; MemWrite(addr, 1, A); HL <- (addr + delta) mod 2^16` (R153, R154). -/
def storeAStepHL (delta : Word) (s : State) : Result :=
  memWrite s.hl s.a s fun t => .next (t.setHL (s.hl + delta))

/-! ### One meaning per instruction -/

/-- LD (BC),A (R148). -/
def execLd_atBC_a (s : State) : Result := storeAt s.bc s.a s
/-- LD B,n (R141). -/
def execLd_b_n (n : Byte) (s : State) : Result := loadRegImm .b n s
/-- LD A,(BC) (R145). -/
def execLd_a_atBC (s : State) : Result := loadRegAt .a s.bc s
/-- LD C,n (R141). -/
def execLd_c_n (n : Byte) (s : State) : Result := loadRegImm .c n s
/-- LD (DE),A (R149). -/
def execLd_atDE_a (s : State) : Result := storeAt s.de s.a s
/-- LD D,n (R141). -/
def execLd_d_n (n : Byte) (s : State) : Result := loadRegImm .d n s
/-- LD A,(DE) (R146). -/
def execLd_a_atDE (s : State) : Result := loadRegAt .a s.de s
/-- LD E,n (R141). -/
def execLd_e_n (n : Byte) (s : State) : Result := loadRegImm .e n s
/-- LD (HL+),A (R153). -/
def execLd_atHLInc_a (s : State) : Result := storeAStepHL 1 s
/-- LD H,n (R141). -/
def execLd_h_n (n : Byte) (s : State) : Result := loadRegImm .h n s
/-- LD A,(HL+) (R151). -/
def execLd_a_atHLInc (s : State) : Result := loadAStepHL 1 s
/-- LD L,n (R141). -/
def execLd_l_n (n : Byte) (s : State) : Result := loadRegImm .l n s
/-- LD (HL-),A (R154). -/
def execLd_atHLDec_a (s : State) : Result := storeAStepHL (-1) s
/-- LD (HL),n (R144). -/
def execLd_atHL_n (n : Byte) (s : State) : Result := storeAt s.hl n s
/-- LD A,(HL-) (R152). -/
def execLd_a_atHLDec (s : State) : Result := loadAStepHL (-1) s
/-- LD A,n (R141). -/
def execLd_a_n (n : Byte) (s : State) : Result := loadRegImm .a n s
/-- LD B,B (R140). -/
def execLd_b_b (s : State) : Result := loadRegReg .b .b s
/-- LD B,C (R140). -/
def execLd_b_c (s : State) : Result := loadRegReg .b .c s
/-- LD B,D (R140). -/
def execLd_b_d (s : State) : Result := loadRegReg .b .d s
/-- LD B,E (R140). -/
def execLd_b_e (s : State) : Result := loadRegReg .b .e s
/-- LD B,H (R140). -/
def execLd_b_h (s : State) : Result := loadRegReg .b .h s
/-- LD B,L (R140). -/
def execLd_b_l (s : State) : Result := loadRegReg .b .l s
/-- LD B,(HL) (R142). -/
def execLd_b_atHL (s : State) : Result := loadRegAt .b s.hl s
/-- LD B,A (R140). -/
def execLd_b_a (s : State) : Result := loadRegReg .b .a s
/-- LD C,B (R140). -/
def execLd_c_b (s : State) : Result := loadRegReg .c .b s
/-- LD C,C (R140). -/
def execLd_c_c (s : State) : Result := loadRegReg .c .c s
/-- LD C,D (R140). -/
def execLd_c_d (s : State) : Result := loadRegReg .c .d s
/-- LD C,E (R140). -/
def execLd_c_e (s : State) : Result := loadRegReg .c .e s
/-- LD C,H (R140). -/
def execLd_c_h (s : State) : Result := loadRegReg .c .h s
/-- LD C,L (R140). -/
def execLd_c_l (s : State) : Result := loadRegReg .c .l s
/-- LD C,(HL) (R142). -/
def execLd_c_atHL (s : State) : Result := loadRegAt .c s.hl s
/-- LD C,A (R140). -/
def execLd_c_a (s : State) : Result := loadRegReg .c .a s
/-- LD D,B (R140). -/
def execLd_d_b (s : State) : Result := loadRegReg .d .b s
/-- LD D,C (R140). -/
def execLd_d_c (s : State) : Result := loadRegReg .d .c s
/-- LD D,D (R140). -/
def execLd_d_d (s : State) : Result := loadRegReg .d .d s
/-- LD D,E (R140). -/
def execLd_d_e (s : State) : Result := loadRegReg .d .e s
/-- LD D,H (R140). -/
def execLd_d_h (s : State) : Result := loadRegReg .d .h s
/-- LD D,L (R140). -/
def execLd_d_l (s : State) : Result := loadRegReg .d .l s
/-- LD D,(HL) (R142). -/
def execLd_d_atHL (s : State) : Result := loadRegAt .d s.hl s
/-- LD D,A (R140). -/
def execLd_d_a (s : State) : Result := loadRegReg .d .a s
/-- LD E,B (R140). -/
def execLd_e_b (s : State) : Result := loadRegReg .e .b s
/-- LD E,C (R140). -/
def execLd_e_c (s : State) : Result := loadRegReg .e .c s
/-- LD E,D (R140). -/
def execLd_e_d (s : State) : Result := loadRegReg .e .d s
/-- LD E,E (R140). -/
def execLd_e_e (s : State) : Result := loadRegReg .e .e s
/-- LD E,H (R140). -/
def execLd_e_h (s : State) : Result := loadRegReg .e .h s
/-- LD E,L (R140). -/
def execLd_e_l (s : State) : Result := loadRegReg .e .l s
/-- LD E,(HL) (R142). -/
def execLd_e_atHL (s : State) : Result := loadRegAt .e s.hl s
/-- LD E,A (R140). -/
def execLd_e_a (s : State) : Result := loadRegReg .e .a s
/-- LD H,B (R140). -/
def execLd_h_b (s : State) : Result := loadRegReg .h .b s
/-- LD H,C (R140). -/
def execLd_h_c (s : State) : Result := loadRegReg .h .c s
/-- LD H,D (R140). -/
def execLd_h_d (s : State) : Result := loadRegReg .h .d s
/-- LD H,E (R140). -/
def execLd_h_e (s : State) : Result := loadRegReg .h .e s
/-- LD H,H (R140). -/
def execLd_h_h (s : State) : Result := loadRegReg .h .h s
/-- LD H,L (R140). -/
def execLd_h_l (s : State) : Result := loadRegReg .h .l s
/-- LD H,(HL) (R142). -/
def execLd_h_atHL (s : State) : Result := loadRegAt .h s.hl s
/-- LD H,A (R140). -/
def execLd_h_a (s : State) : Result := loadRegReg .h .a s
/-- LD L,B (R140). -/
def execLd_l_b (s : State) : Result := loadRegReg .l .b s
/-- LD L,C (R140). -/
def execLd_l_c (s : State) : Result := loadRegReg .l .c s
/-- LD L,D (R140). -/
def execLd_l_d (s : State) : Result := loadRegReg .l .d s
/-- LD L,E (R140). -/
def execLd_l_e (s : State) : Result := loadRegReg .l .e s
/-- LD L,H (R140). -/
def execLd_l_h (s : State) : Result := loadRegReg .l .h s
/-- LD L,L (R140). -/
def execLd_l_l (s : State) : Result := loadRegReg .l .l s
/-- LD L,(HL) (R142). -/
def execLd_l_atHL (s : State) : Result := loadRegAt .l s.hl s
/-- LD L,A (R140). -/
def execLd_l_a (s : State) : Result := loadRegReg .l .a s
/-- LD (HL),B (R143). -/
def execLd_atHL_b (s : State) : Result := storeAt s.hl s.b s
/-- LD (HL),C (R143). -/
def execLd_atHL_c (s : State) : Result := storeAt s.hl s.c s
/-- LD (HL),D (R143). -/
def execLd_atHL_d (s : State) : Result := storeAt s.hl s.d s
/-- LD (HL),E (R143). -/
def execLd_atHL_e (s : State) : Result := storeAt s.hl s.e s
/-- LD (HL),H (R143). -/
def execLd_atHL_h (s : State) : Result := storeAt s.hl s.h s
/-- LD (HL),L (R143). -/
def execLd_atHL_l (s : State) : Result := storeAt s.hl s.l s
/-- LD (HL),A (R143). -/
def execLd_atHL_a (s : State) : Result := storeAt s.hl s.a s
/-- LD A,B (R140). -/
def execLd_a_b (s : State) : Result := loadRegReg .a .b s
/-- LD A,C (R140). -/
def execLd_a_c (s : State) : Result := loadRegReg .a .c s
/-- LD A,D (R140). -/
def execLd_a_d (s : State) : Result := loadRegReg .a .d s
/-- LD A,E (R140). -/
def execLd_a_e (s : State) : Result := loadRegReg .a .e s
/-- LD A,H (R140). -/
def execLd_a_h (s : State) : Result := loadRegReg .a .h s
/-- LD A,L (R140). -/
def execLd_a_l (s : State) : Result := loadRegReg .a .l s
/-- LD A,(HL) (R142). -/
def execLd_a_atHL (s : State) : Result := loadRegAt .a s.hl s
/-- LD A,A (R140). -/
def execLd_a_a (s : State) : Result := loadRegReg .a .a s
/-- LDH (n),A (R156). -/
def execLdh_atN_a (n : Byte) (s : State) : Result := storeAt (highPage n) s.a s
/-- LDH (C),A (R158). -/
def execLdh_atC_a (s : State) : Result := storeAt (highPage s.c) s.a s
/-- LD (nn),A (R150). -/
def execLd_atNN_a (nn : Word) (s : State) : Result := storeAt nn s.a s
/-- LDH A,(n) (R155). -/
def execLdh_a_atN (n : Byte) (s : State) : Result := loadRegAt .a (highPage n) s
/-- LDH A,(C) (R157). -/
def execLdh_a_atC (s : State) : Result := loadRegAt .a (highPage s.c) s
/-- LD A,(nn) (R147). -/
def execLd_a_atNN (nn : Word) (s : State) : Result := loadRegAt .a nn s

end Sys2Proof.Machine
end

