-- ==== Sys2Proof/Machine/Misc.lean ====
section
/-! DEFINITION. Miscellaneous instructions (spec/46_misc.md R280 to R288). -/

namespace Sys2Proof.Machine

/-! ### The operations -/

/-- An instruction with no effect on the state but the fetch: NOP, and DI and EI, "no-ops on CPU state" (R280, R285,
R286). -/
def noEffect (s : State) : Result := .next s

/-- DAA (R281): `A <- res; flag.Z <- (res = 0); flag.H <- 0; flag.C <- c`, N preserved. -/
def decimalAdjust (s : State) : Result :=
  let (res, c) := daaOut s.a (s.flag .n) (s.flag .h) (s.flag .c)
  .next ((((s.setReg8 .a res).setFlag .z (res == 0)).setFlag .h false).setFlag .c c)

/-- CPL (R282): `A <- ~A; flag.N <- 1; flag.H <- 1`. -/
def complementA (s : State) : Result := .next (((s.setReg8 .a (~~~s.a)).setFlag .n true).setFlag .h true)

/-- SCF (R283): `flag.N <- 0; flag.H <- 0; flag.C <- 1`. -/
def setCarry (s : State) : Result := .next (((s.setFlag .n false).setFlag .h false).setFlag .c true)

/-- CCF (R284): `flag.C <- 1 - flag.C; flag.N <- 0; flag.H <- 0`. -/
def complementCarry (s : State) : Result := .next (((s.toggleFlag .c).setFlag .n false).setFlag .h false)

/-- `Internal(); Internal()`: HALT and STOP (R287, R288), "with no register or memory effect". -/
def twoInternal (s : State) : Result := .next s.internal.internal

/-! ### One meaning per instruction -/

/-- NOP (R280). -/
def execNop (s : State) : Result := noEffect s
/-- STOP (R288). -/
def execStop (s : State) : Result := twoInternal s
/-- DAA (R281). -/
def execDaa (s : State) : Result := decimalAdjust s
/-- CPL (R282). -/
def execCpl (s : State) : Result := complementA s
/-- SCF (R283). -/
def execScf (s : State) : Result := setCarry s
/-- CCF (R284). -/
def execCcf (s : State) : Result := complementCarry s
/-- HALT (R287). -/
def execHalt (s : State) : Result := twoInternal s
/-- DI (R285). -/
def execDi (s : State) : Result := noEffect s
/-- EI (R286). -/
def execEi (s : State) : Result := noEffect s

end Sys2Proof.Machine
end

