-- ==== Sys2Proof/Machine/RotateShiftBit.lean ====
section
/-! DEFINITION. Rotates, shifts and bit operations (spec/44_rotate_shift_bit.md R230 to R245). -/

namespace Sys2Proof.Machine

/-! ### The operations -/

/-- RLCA, RRCA, RLA, RRA (R230 to R233): "All produce Z=0, N=0, H=0; C = ejected bit." -/
def rotateA (op : AccRotOp) (s : State) : Result :=
  let (res, c) := accRotOut op s.a (s.flag .c)
  .next ((s.setReg8 .a res).setFlags false false false c)

/-- RLC to SRL of a target (R235 to R242): `Write(res); F <- ((res = 0)<<7) | (c<<4)`. -/
def rotateTarget (op : RotOp) (x : Target8) (s : State) : Result :=
  readTarget x s fun v t =>
    let (res, c) := rotOut op v (s.flag .c)
    writeTarget x res t fun u => .next (u.setFlags (res == 0) false false c)

/-- BIT b (R243): `flag.Z <- (v[b] = 0); flag.N <- 0; flag.H <- 1`; "the target is never written". -/
def testBit (n : Fin 8) (x : Target8) (s : State) : Result :=
  readTarget x s fun v t => .next (((t.setFlag .z (!v.getLsbD n.val)).setFlag .n false).setFlag .h true)

/-- RES b (R244): `res <- v & ~(1 << b); Write(res)`. -/
def resetBit (n : Fin 8) (x : Target8) (s : State) : Result :=
  readTarget x s fun v t => writeTarget x (v &&& ~~~(bitMask n)) t .next

/-- SET b (R245): `res <- v | (1 << b); Write(res)`. -/
def setBit (n : Fin 8) (x : Target8) (s : State) : Result :=
  readTarget x s fun v t => writeTarget x (v ||| bitMask n) t .next

/-! ### One meaning per instruction -/

/-- RLCA (R230). -/
def execRlca (s : State) : Result := rotateA .rlca s
/-- RRCA (R231). -/
def execRrca (s : State) : Result := rotateA .rrca s
/-- RLA (R232). -/
def execRla (s : State) : Result := rotateA .rla s
/-- RRA (R233). -/
def execRra (s : State) : Result := rotateA .rra s
/-- RLC B (R235). -/
def execRlc_b (s : State) : Result := rotateTarget .rlc (.reg .b) s
/-- RLC C (R235). -/
def execRlc_c (s : State) : Result := rotateTarget .rlc (.reg .c) s
/-- RLC D (R235). -/
def execRlc_d (s : State) : Result := rotateTarget .rlc (.reg .d) s
/-- RLC E (R235). -/
def execRlc_e (s : State) : Result := rotateTarget .rlc (.reg .e) s
/-- RLC H (R235). -/
def execRlc_h (s : State) : Result := rotateTarget .rlc (.reg .h) s
/-- RLC L (R235). -/
def execRlc_l (s : State) : Result := rotateTarget .rlc (.reg .l) s
/-- RLC (HL) (R235). -/
def execRlc_atHL (s : State) : Result := rotateTarget .rlc .atHL s
/-- RLC A (R235). -/
def execRlc_a (s : State) : Result := rotateTarget .rlc (.reg .a) s
/-- RRC B (R236). -/
def execRrc_b (s : State) : Result := rotateTarget .rrc (.reg .b) s
/-- RRC C (R236). -/
def execRrc_c (s : State) : Result := rotateTarget .rrc (.reg .c) s
/-- RRC D (R236). -/
def execRrc_d (s : State) : Result := rotateTarget .rrc (.reg .d) s
/-- RRC E (R236). -/
def execRrc_e (s : State) : Result := rotateTarget .rrc (.reg .e) s
/-- RRC H (R236). -/
def execRrc_h (s : State) : Result := rotateTarget .rrc (.reg .h) s
/-- RRC L (R236). -/
def execRrc_l (s : State) : Result := rotateTarget .rrc (.reg .l) s
/-- RRC (HL) (R236). -/
def execRrc_atHL (s : State) : Result := rotateTarget .rrc .atHL s
/-- RRC A (R236). -/
def execRrc_a (s : State) : Result := rotateTarget .rrc (.reg .a) s
/-- RL B (R237). -/
def execRl_b (s : State) : Result := rotateTarget .rl (.reg .b) s
/-- RL C (R237). -/
def execRl_c (s : State) : Result := rotateTarget .rl (.reg .c) s
/-- RL D (R237). -/
def execRl_d (s : State) : Result := rotateTarget .rl (.reg .d) s
/-- RL E (R237). -/
def execRl_e (s : State) : Result := rotateTarget .rl (.reg .e) s
/-- RL H (R237). -/
def execRl_h (s : State) : Result := rotateTarget .rl (.reg .h) s
/-- RL L (R237). -/
def execRl_l (s : State) : Result := rotateTarget .rl (.reg .l) s
/-- RL (HL) (R237). -/
def execRl_atHL (s : State) : Result := rotateTarget .rl .atHL s
/-- RL A (R237). -/
def execRl_a (s : State) : Result := rotateTarget .rl (.reg .a) s
/-- RR B (R238). -/
def execRr_b (s : State) : Result := rotateTarget .rr (.reg .b) s
/-- RR C (R238). -/
def execRr_c (s : State) : Result := rotateTarget .rr (.reg .c) s
/-- RR D (R238). -/
def execRr_d (s : State) : Result := rotateTarget .rr (.reg .d) s
/-- RR E (R238). -/
def execRr_e (s : State) : Result := rotateTarget .rr (.reg .e) s
/-- RR H (R238). -/
def execRr_h (s : State) : Result := rotateTarget .rr (.reg .h) s
/-- RR L (R238). -/
def execRr_l (s : State) : Result := rotateTarget .rr (.reg .l) s
/-- RR (HL) (R238). -/
def execRr_atHL (s : State) : Result := rotateTarget .rr .atHL s
/-- RR A (R238). -/
def execRr_a (s : State) : Result := rotateTarget .rr (.reg .a) s
/-- SLA B (R239). -/
def execSla_b (s : State) : Result := rotateTarget .sla (.reg .b) s
/-- SLA C (R239). -/
def execSla_c (s : State) : Result := rotateTarget .sla (.reg .c) s
/-- SLA D (R239). -/
def execSla_d (s : State) : Result := rotateTarget .sla (.reg .d) s
/-- SLA E (R239). -/
def execSla_e (s : State) : Result := rotateTarget .sla (.reg .e) s
/-- SLA H (R239). -/
def execSla_h (s : State) : Result := rotateTarget .sla (.reg .h) s
/-- SLA L (R239). -/
def execSla_l (s : State) : Result := rotateTarget .sla (.reg .l) s
/-- SLA (HL) (R239). -/
def execSla_atHL (s : State) : Result := rotateTarget .sla .atHL s
/-- SLA A (R239). -/
def execSla_a (s : State) : Result := rotateTarget .sla (.reg .a) s
/-- SRA B (R240). -/
def execSra_b (s : State) : Result := rotateTarget .sra (.reg .b) s
/-- SRA C (R240). -/
def execSra_c (s : State) : Result := rotateTarget .sra (.reg .c) s
/-- SRA D (R240). -/
def execSra_d (s : State) : Result := rotateTarget .sra (.reg .d) s
/-- SRA E (R240). -/
def execSra_e (s : State) : Result := rotateTarget .sra (.reg .e) s
/-- SRA H (R240). -/
def execSra_h (s : State) : Result := rotateTarget .sra (.reg .h) s
/-- SRA L (R240). -/
def execSra_l (s : State) : Result := rotateTarget .sra (.reg .l) s
/-- SRA (HL) (R240). -/
def execSra_atHL (s : State) : Result := rotateTarget .sra .atHL s
/-- SRA A (R240). -/
def execSra_a (s : State) : Result := rotateTarget .sra (.reg .a) s
/-- SWAP B (R241). -/
def execSwap_b (s : State) : Result := rotateTarget .swap (.reg .b) s
/-- SWAP C (R241). -/
def execSwap_c (s : State) : Result := rotateTarget .swap (.reg .c) s
/-- SWAP D (R241). -/
def execSwap_d (s : State) : Result := rotateTarget .swap (.reg .d) s
/-- SWAP E (R241). -/
def execSwap_e (s : State) : Result := rotateTarget .swap (.reg .e) s
/-- SWAP H (R241). -/
def execSwap_h (s : State) : Result := rotateTarget .swap (.reg .h) s
/-- SWAP L (R241). -/
def execSwap_l (s : State) : Result := rotateTarget .swap (.reg .l) s
/-- SWAP (HL) (R241). -/
def execSwap_atHL (s : State) : Result := rotateTarget .swap .atHL s
/-- SWAP A (R241). -/
def execSwap_a (s : State) : Result := rotateTarget .swap (.reg .a) s
/-- SRL B (R242). -/
def execSrl_b (s : State) : Result := rotateTarget .srl (.reg .b) s
/-- SRL C (R242). -/
def execSrl_c (s : State) : Result := rotateTarget .srl (.reg .c) s
/-- SRL D (R242). -/
def execSrl_d (s : State) : Result := rotateTarget .srl (.reg .d) s
/-- SRL E (R242). -/
def execSrl_e (s : State) : Result := rotateTarget .srl (.reg .e) s
/-- SRL H (R242). -/
def execSrl_h (s : State) : Result := rotateTarget .srl (.reg .h) s
/-- SRL L (R242). -/
def execSrl_l (s : State) : Result := rotateTarget .srl (.reg .l) s
/-- SRL (HL) (R242). -/
def execSrl_atHL (s : State) : Result := rotateTarget .srl .atHL s
/-- SRL A (R242). -/
def execSrl_a (s : State) : Result := rotateTarget .srl (.reg .a) s
/-- BIT 0,B (R243). -/
def execBit_0_b (s : State) : Result := testBit 0 (.reg .b) s
/-- BIT 0,C (R243). -/
def execBit_0_c (s : State) : Result := testBit 0 (.reg .c) s
/-- BIT 0,D (R243). -/
def execBit_0_d (s : State) : Result := testBit 0 (.reg .d) s
/-- BIT 0,E (R243). -/
def execBit_0_e (s : State) : Result := testBit 0 (.reg .e) s
/-- BIT 0,H (R243). -/
def execBit_0_h (s : State) : Result := testBit 0 (.reg .h) s
/-- BIT 0,L (R243). -/
def execBit_0_l (s : State) : Result := testBit 0 (.reg .l) s
/-- BIT 0,(HL) (R243). -/
def execBit_0_atHL (s : State) : Result := testBit 0 .atHL s
/-- BIT 0,A (R243). -/
def execBit_0_a (s : State) : Result := testBit 0 (.reg .a) s
/-- BIT 1,B (R243). -/
def execBit_1_b (s : State) : Result := testBit 1 (.reg .b) s
/-- BIT 1,C (R243). -/
def execBit_1_c (s : State) : Result := testBit 1 (.reg .c) s
/-- BIT 1,D (R243). -/
def execBit_1_d (s : State) : Result := testBit 1 (.reg .d) s
/-- BIT 1,E (R243). -/
def execBit_1_e (s : State) : Result := testBit 1 (.reg .e) s
/-- BIT 1,H (R243). -/
def execBit_1_h (s : State) : Result := testBit 1 (.reg .h) s
/-- BIT 1,L (R243). -/
def execBit_1_l (s : State) : Result := testBit 1 (.reg .l) s
/-- BIT 1,(HL) (R243). -/
def execBit_1_atHL (s : State) : Result := testBit 1 .atHL s
/-- BIT 1,A (R243). -/
def execBit_1_a (s : State) : Result := testBit 1 (.reg .a) s
/-- BIT 2,B (R243). -/
def execBit_2_b (s : State) : Result := testBit 2 (.reg .b) s
/-- BIT 2,C (R243). -/
def execBit_2_c (s : State) : Result := testBit 2 (.reg .c) s
/-- BIT 2,D (R243). -/
def execBit_2_d (s : State) : Result := testBit 2 (.reg .d) s
/-- BIT 2,E (R243). -/
def execBit_2_e (s : State) : Result := testBit 2 (.reg .e) s
/-- BIT 2,H (R243). -/
def execBit_2_h (s : State) : Result := testBit 2 (.reg .h) s
/-- BIT 2,L (R243). -/
def execBit_2_l (s : State) : Result := testBit 2 (.reg .l) s
/-- BIT 2,(HL) (R243). -/
def execBit_2_atHL (s : State) : Result := testBit 2 .atHL s
/-- BIT 2,A (R243). -/
def execBit_2_a (s : State) : Result := testBit 2 (.reg .a) s
/-- BIT 3,B (R243). -/
def execBit_3_b (s : State) : Result := testBit 3 (.reg .b) s
/-- BIT 3,C (R243). -/
def execBit_3_c (s : State) : Result := testBit 3 (.reg .c) s
/-- BIT 3,D (R243). -/
def execBit_3_d (s : State) : Result := testBit 3 (.reg .d) s
/-- BIT 3,E (R243). -/
def execBit_3_e (s : State) : Result := testBit 3 (.reg .e) s
/-- BIT 3,H (R243). -/
def execBit_3_h (s : State) : Result := testBit 3 (.reg .h) s
/-- BIT 3,L (R243). -/
def execBit_3_l (s : State) : Result := testBit 3 (.reg .l) s
/-- BIT 3,(HL) (R243). -/
def execBit_3_atHL (s : State) : Result := testBit 3 .atHL s
/-- BIT 3,A (R243). -/
def execBit_3_a (s : State) : Result := testBit 3 (.reg .a) s
/-- BIT 4,B (R243). -/
def execBit_4_b (s : State) : Result := testBit 4 (.reg .b) s
/-- BIT 4,C (R243). -/
def execBit_4_c (s : State) : Result := testBit 4 (.reg .c) s
/-- BIT 4,D (R243). -/
def execBit_4_d (s : State) : Result := testBit 4 (.reg .d) s
/-- BIT 4,E (R243). -/
def execBit_4_e (s : State) : Result := testBit 4 (.reg .e) s
/-- BIT 4,H (R243). -/
def execBit_4_h (s : State) : Result := testBit 4 (.reg .h) s
/-- BIT 4,L (R243). -/
def execBit_4_l (s : State) : Result := testBit 4 (.reg .l) s
/-- BIT 4,(HL) (R243). -/
def execBit_4_atHL (s : State) : Result := testBit 4 .atHL s
/-- BIT 4,A (R243). -/
def execBit_4_a (s : State) : Result := testBit 4 (.reg .a) s
/-- BIT 5,B (R243). -/
def execBit_5_b (s : State) : Result := testBit 5 (.reg .b) s
/-- BIT 5,C (R243). -/
def execBit_5_c (s : State) : Result := testBit 5 (.reg .c) s
/-- BIT 5,D (R243). -/
def execBit_5_d (s : State) : Result := testBit 5 (.reg .d) s
/-- BIT 5,E (R243). -/
def execBit_5_e (s : State) : Result := testBit 5 (.reg .e) s
/-- BIT 5,H (R243). -/
def execBit_5_h (s : State) : Result := testBit 5 (.reg .h) s
/-- BIT 5,L (R243). -/
def execBit_5_l (s : State) : Result := testBit 5 (.reg .l) s
/-- BIT 5,(HL) (R243). -/
def execBit_5_atHL (s : State) : Result := testBit 5 .atHL s
/-- BIT 5,A (R243). -/
def execBit_5_a (s : State) : Result := testBit 5 (.reg .a) s
/-- BIT 6,B (R243). -/
def execBit_6_b (s : State) : Result := testBit 6 (.reg .b) s
/-- BIT 6,C (R243). -/
def execBit_6_c (s : State) : Result := testBit 6 (.reg .c) s
/-- BIT 6,D (R243). -/
def execBit_6_d (s : State) : Result := testBit 6 (.reg .d) s
/-- BIT 6,E (R243). -/
def execBit_6_e (s : State) : Result := testBit 6 (.reg .e) s
/-- BIT 6,H (R243). -/
def execBit_6_h (s : State) : Result := testBit 6 (.reg .h) s
/-- BIT 6,L (R243). -/
def execBit_6_l (s : State) : Result := testBit 6 (.reg .l) s
/-- BIT 6,(HL) (R243). -/
def execBit_6_atHL (s : State) : Result := testBit 6 .atHL s
/-- BIT 6,A (R243). -/
def execBit_6_a (s : State) : Result := testBit 6 (.reg .a) s
/-- BIT 7,B (R243). -/
def execBit_7_b (s : State) : Result := testBit 7 (.reg .b) s
/-- BIT 7,C (R243). -/
def execBit_7_c (s : State) : Result := testBit 7 (.reg .c) s
/-- BIT 7,D (R243). -/
def execBit_7_d (s : State) : Result := testBit 7 (.reg .d) s
/-- BIT 7,E (R243). -/
def execBit_7_e (s : State) : Result := testBit 7 (.reg .e) s
/-- BIT 7,H (R243). -/
def execBit_7_h (s : State) : Result := testBit 7 (.reg .h) s
/-- BIT 7,L (R243). -/
def execBit_7_l (s : State) : Result := testBit 7 (.reg .l) s
/-- BIT 7,(HL) (R243). -/
def execBit_7_atHL (s : State) : Result := testBit 7 .atHL s
/-- BIT 7,A (R243). -/
def execBit_7_a (s : State) : Result := testBit 7 (.reg .a) s
/-- RES 0,B (R244). -/
def execRes_0_b (s : State) : Result := resetBit 0 (.reg .b) s
/-- RES 0,C (R244). -/
def execRes_0_c (s : State) : Result := resetBit 0 (.reg .c) s
/-- RES 0,D (R244). -/
def execRes_0_d (s : State) : Result := resetBit 0 (.reg .d) s
/-- RES 0,E (R244). -/
def execRes_0_e (s : State) : Result := resetBit 0 (.reg .e) s
/-- RES 0,H (R244). -/
def execRes_0_h (s : State) : Result := resetBit 0 (.reg .h) s
/-- RES 0,L (R244). -/
def execRes_0_l (s : State) : Result := resetBit 0 (.reg .l) s
/-- RES 0,(HL) (R244). -/
def execRes_0_atHL (s : State) : Result := resetBit 0 .atHL s
/-- RES 0,A (R244). -/
def execRes_0_a (s : State) : Result := resetBit 0 (.reg .a) s
/-- RES 1,B (R244). -/
def execRes_1_b (s : State) : Result := resetBit 1 (.reg .b) s
/-- RES 1,C (R244). -/
def execRes_1_c (s : State) : Result := resetBit 1 (.reg .c) s
/-- RES 1,D (R244). -/
def execRes_1_d (s : State) : Result := resetBit 1 (.reg .d) s
/-- RES 1,E (R244). -/
def execRes_1_e (s : State) : Result := resetBit 1 (.reg .e) s
/-- RES 1,H (R244). -/
def execRes_1_h (s : State) : Result := resetBit 1 (.reg .h) s
/-- RES 1,L (R244). -/
def execRes_1_l (s : State) : Result := resetBit 1 (.reg .l) s
/-- RES 1,(HL) (R244). -/
def execRes_1_atHL (s : State) : Result := resetBit 1 .atHL s
/-- RES 1,A (R244). -/
def execRes_1_a (s : State) : Result := resetBit 1 (.reg .a) s
/-- RES 2,B (R244). -/
def execRes_2_b (s : State) : Result := resetBit 2 (.reg .b) s
/-- RES 2,C (R244). -/
def execRes_2_c (s : State) : Result := resetBit 2 (.reg .c) s
/-- RES 2,D (R244). -/
def execRes_2_d (s : State) : Result := resetBit 2 (.reg .d) s
/-- RES 2,E (R244). -/
def execRes_2_e (s : State) : Result := resetBit 2 (.reg .e) s
/-- RES 2,H (R244). -/
def execRes_2_h (s : State) : Result := resetBit 2 (.reg .h) s
/-- RES 2,L (R244). -/
def execRes_2_l (s : State) : Result := resetBit 2 (.reg .l) s
/-- RES 2,(HL) (R244). -/
def execRes_2_atHL (s : State) : Result := resetBit 2 .atHL s
/-- RES 2,A (R244). -/
def execRes_2_a (s : State) : Result := resetBit 2 (.reg .a) s
/-- RES 3,B (R244). -/
def execRes_3_b (s : State) : Result := resetBit 3 (.reg .b) s
/-- RES 3,C (R244). -/
def execRes_3_c (s : State) : Result := resetBit 3 (.reg .c) s
/-- RES 3,D (R244). -/
def execRes_3_d (s : State) : Result := resetBit 3 (.reg .d) s
/-- RES 3,E (R244). -/
def execRes_3_e (s : State) : Result := resetBit 3 (.reg .e) s
/-- RES 3,H (R244). -/
def execRes_3_h (s : State) : Result := resetBit 3 (.reg .h) s
/-- RES 3,L (R244). -/
def execRes_3_l (s : State) : Result := resetBit 3 (.reg .l) s
/-- RES 3,(HL) (R244). -/
def execRes_3_atHL (s : State) : Result := resetBit 3 .atHL s
/-- RES 3,A (R244). -/
def execRes_3_a (s : State) : Result := resetBit 3 (.reg .a) s
/-- RES 4,B (R244). -/
def execRes_4_b (s : State) : Result := resetBit 4 (.reg .b) s
/-- RES 4,C (R244). -/
def execRes_4_c (s : State) : Result := resetBit 4 (.reg .c) s
/-- RES 4,D (R244). -/
def execRes_4_d (s : State) : Result := resetBit 4 (.reg .d) s
/-- RES 4,E (R244). -/
def execRes_4_e (s : State) : Result := resetBit 4 (.reg .e) s
/-- RES 4,H (R244). -/
def execRes_4_h (s : State) : Result := resetBit 4 (.reg .h) s
/-- RES 4,L (R244). -/
def execRes_4_l (s : State) : Result := resetBit 4 (.reg .l) s
/-- RES 4,(HL) (R244). -/
def execRes_4_atHL (s : State) : Result := resetBit 4 .atHL s
/-- RES 4,A (R244). -/
def execRes_4_a (s : State) : Result := resetBit 4 (.reg .a) s
/-- RES 5,B (R244). -/
def execRes_5_b (s : State) : Result := resetBit 5 (.reg .b) s
/-- RES 5,C (R244). -/
def execRes_5_c (s : State) : Result := resetBit 5 (.reg .c) s
/-- RES 5,D (R244). -/
def execRes_5_d (s : State) : Result := resetBit 5 (.reg .d) s
/-- RES 5,E (R244). -/
def execRes_5_e (s : State) : Result := resetBit 5 (.reg .e) s
/-- RES 5,H (R244). -/
def execRes_5_h (s : State) : Result := resetBit 5 (.reg .h) s
/-- RES 5,L (R244). -/
def execRes_5_l (s : State) : Result := resetBit 5 (.reg .l) s
/-- RES 5,(HL) (R244). -/
def execRes_5_atHL (s : State) : Result := resetBit 5 .atHL s
/-- RES 5,A (R244). -/
def execRes_5_a (s : State) : Result := resetBit 5 (.reg .a) s
/-- RES 6,B (R244). -/
def execRes_6_b (s : State) : Result := resetBit 6 (.reg .b) s
/-- RES 6,C (R244). -/
def execRes_6_c (s : State) : Result := resetBit 6 (.reg .c) s
/-- RES 6,D (R244). -/
def execRes_6_d (s : State) : Result := resetBit 6 (.reg .d) s
/-- RES 6,E (R244). -/
def execRes_6_e (s : State) : Result := resetBit 6 (.reg .e) s
/-- RES 6,H (R244). -/
def execRes_6_h (s : State) : Result := resetBit 6 (.reg .h) s
/-- RES 6,L (R244). -/
def execRes_6_l (s : State) : Result := resetBit 6 (.reg .l) s
/-- RES 6,(HL) (R244). -/
def execRes_6_atHL (s : State) : Result := resetBit 6 .atHL s
/-- RES 6,A (R244). -/
def execRes_6_a (s : State) : Result := resetBit 6 (.reg .a) s
/-- RES 7,B (R244). -/
def execRes_7_b (s : State) : Result := resetBit 7 (.reg .b) s
/-- RES 7,C (R244). -/
def execRes_7_c (s : State) : Result := resetBit 7 (.reg .c) s
/-- RES 7,D (R244). -/
def execRes_7_d (s : State) : Result := resetBit 7 (.reg .d) s
/-- RES 7,E (R244). -/
def execRes_7_e (s : State) : Result := resetBit 7 (.reg .e) s
/-- RES 7,H (R244). -/
def execRes_7_h (s : State) : Result := resetBit 7 (.reg .h) s
/-- RES 7,L (R244). -/
def execRes_7_l (s : State) : Result := resetBit 7 (.reg .l) s
/-- RES 7,(HL) (R244). -/
def execRes_7_atHL (s : State) : Result := resetBit 7 .atHL s
/-- RES 7,A (R244). -/
def execRes_7_a (s : State) : Result := resetBit 7 (.reg .a) s
/-- SET 0,B (R245). -/
def execSet_0_b (s : State) : Result := setBit 0 (.reg .b) s
/-- SET 0,C (R245). -/
def execSet_0_c (s : State) : Result := setBit 0 (.reg .c) s
/-- SET 0,D (R245). -/
def execSet_0_d (s : State) : Result := setBit 0 (.reg .d) s
/-- SET 0,E (R245). -/
def execSet_0_e (s : State) : Result := setBit 0 (.reg .e) s
/-- SET 0,H (R245). -/
def execSet_0_h (s : State) : Result := setBit 0 (.reg .h) s
/-- SET 0,L (R245). -/
def execSet_0_l (s : State) : Result := setBit 0 (.reg .l) s
/-- SET 0,(HL) (R245). -/
def execSet_0_atHL (s : State) : Result := setBit 0 .atHL s
/-- SET 0,A (R245). -/
def execSet_0_a (s : State) : Result := setBit 0 (.reg .a) s
/-- SET 1,B (R245). -/
def execSet_1_b (s : State) : Result := setBit 1 (.reg .b) s
/-- SET 1,C (R245). -/
def execSet_1_c (s : State) : Result := setBit 1 (.reg .c) s
/-- SET 1,D (R245). -/
def execSet_1_d (s : State) : Result := setBit 1 (.reg .d) s
/-- SET 1,E (R245). -/
def execSet_1_e (s : State) : Result := setBit 1 (.reg .e) s
/-- SET 1,H (R245). -/
def execSet_1_h (s : State) : Result := setBit 1 (.reg .h) s
/-- SET 1,L (R245). -/
def execSet_1_l (s : State) : Result := setBit 1 (.reg .l) s
/-- SET 1,(HL) (R245). -/
def execSet_1_atHL (s : State) : Result := setBit 1 .atHL s
/-- SET 1,A (R245). -/
def execSet_1_a (s : State) : Result := setBit 1 (.reg .a) s
/-- SET 2,B (R245). -/
def execSet_2_b (s : State) : Result := setBit 2 (.reg .b) s
/-- SET 2,C (R245). -/
def execSet_2_c (s : State) : Result := setBit 2 (.reg .c) s
/-- SET 2,D (R245). -/
def execSet_2_d (s : State) : Result := setBit 2 (.reg .d) s
/-- SET 2,E (R245). -/
def execSet_2_e (s : State) : Result := setBit 2 (.reg .e) s
/-- SET 2,H (R245). -/
def execSet_2_h (s : State) : Result := setBit 2 (.reg .h) s
/-- SET 2,L (R245). -/
def execSet_2_l (s : State) : Result := setBit 2 (.reg .l) s
/-- SET 2,(HL) (R245). -/
def execSet_2_atHL (s : State) : Result := setBit 2 .atHL s
/-- SET 2,A (R245). -/
def execSet_2_a (s : State) : Result := setBit 2 (.reg .a) s
/-- SET 3,B (R245). -/
def execSet_3_b (s : State) : Result := setBit 3 (.reg .b) s
/-- SET 3,C (R245). -/
def execSet_3_c (s : State) : Result := setBit 3 (.reg .c) s
/-- SET 3,D (R245). -/
def execSet_3_d (s : State) : Result := setBit 3 (.reg .d) s
/-- SET 3,E (R245). -/
def execSet_3_e (s : State) : Result := setBit 3 (.reg .e) s
/-- SET 3,H (R245). -/
def execSet_3_h (s : State) : Result := setBit 3 (.reg .h) s
/-- SET 3,L (R245). -/
def execSet_3_l (s : State) : Result := setBit 3 (.reg .l) s
/-- SET 3,(HL) (R245). -/
def execSet_3_atHL (s : State) : Result := setBit 3 .atHL s
/-- SET 3,A (R245). -/
def execSet_3_a (s : State) : Result := setBit 3 (.reg .a) s
/-- SET 4,B (R245). -/
def execSet_4_b (s : State) : Result := setBit 4 (.reg .b) s
/-- SET 4,C (R245). -/
def execSet_4_c (s : State) : Result := setBit 4 (.reg .c) s
/-- SET 4,D (R245). -/
def execSet_4_d (s : State) : Result := setBit 4 (.reg .d) s
/-- SET 4,E (R245). -/
def execSet_4_e (s : State) : Result := setBit 4 (.reg .e) s
/-- SET 4,H (R245). -/
def execSet_4_h (s : State) : Result := setBit 4 (.reg .h) s
/-- SET 4,L (R245). -/
def execSet_4_l (s : State) : Result := setBit 4 (.reg .l) s
/-- SET 4,(HL) (R245). -/
def execSet_4_atHL (s : State) : Result := setBit 4 .atHL s
/-- SET 4,A (R245). -/
def execSet_4_a (s : State) : Result := setBit 4 (.reg .a) s
/-- SET 5,B (R245). -/
def execSet_5_b (s : State) : Result := setBit 5 (.reg .b) s
/-- SET 5,C (R245). -/
def execSet_5_c (s : State) : Result := setBit 5 (.reg .c) s
/-- SET 5,D (R245). -/
def execSet_5_d (s : State) : Result := setBit 5 (.reg .d) s
/-- SET 5,E (R245). -/
def execSet_5_e (s : State) : Result := setBit 5 (.reg .e) s
/-- SET 5,H (R245). -/
def execSet_5_h (s : State) : Result := setBit 5 (.reg .h) s
/-- SET 5,L (R245). -/
def execSet_5_l (s : State) : Result := setBit 5 (.reg .l) s
/-- SET 5,(HL) (R245). -/
def execSet_5_atHL (s : State) : Result := setBit 5 .atHL s
/-- SET 5,A (R245). -/
def execSet_5_a (s : State) : Result := setBit 5 (.reg .a) s
/-- SET 6,B (R245). -/
def execSet_6_b (s : State) : Result := setBit 6 (.reg .b) s
/-- SET 6,C (R245). -/
def execSet_6_c (s : State) : Result := setBit 6 (.reg .c) s
/-- SET 6,D (R245). -/
def execSet_6_d (s : State) : Result := setBit 6 (.reg .d) s
/-- SET 6,E (R245). -/
def execSet_6_e (s : State) : Result := setBit 6 (.reg .e) s
/-- SET 6,H (R245). -/
def execSet_6_h (s : State) : Result := setBit 6 (.reg .h) s
/-- SET 6,L (R245). -/
def execSet_6_l (s : State) : Result := setBit 6 (.reg .l) s
/-- SET 6,(HL) (R245). -/
def execSet_6_atHL (s : State) : Result := setBit 6 .atHL s
/-- SET 6,A (R245). -/
def execSet_6_a (s : State) : Result := setBit 6 (.reg .a) s
/-- SET 7,B (R245). -/
def execSet_7_b (s : State) : Result := setBit 7 (.reg .b) s
/-- SET 7,C (R245). -/
def execSet_7_c (s : State) : Result := setBit 7 (.reg .c) s
/-- SET 7,D (R245). -/
def execSet_7_d (s : State) : Result := setBit 7 (.reg .d) s
/-- SET 7,E (R245). -/
def execSet_7_e (s : State) : Result := setBit 7 (.reg .e) s
/-- SET 7,H (R245). -/
def execSet_7_h (s : State) : Result := setBit 7 (.reg .h) s
/-- SET 7,L (R245). -/
def execSet_7_l (s : State) : Result := setBit 7 (.reg .l) s
/-- SET 7,(HL) (R245). -/
def execSet_7_atHL (s : State) : Result := setBit 7 .atHL s
/-- SET 7,A (R245). -/
def execSet_7_a (s : State) : Result := setBit 7 (.reg .a) s

end Sys2Proof.Machine
end

