-- ==== Sys2Proof/Machine/Fetch.lean ====
section
/-! DEFINITION. Fetching an instruction: every byte is an ordinary bus read at PC (spec/30_encoding.md R104, R111,
spec/20_memory.md R66). -/

namespace Sys2Proof.Machine

/-- `v <- MemRead(PC, 1); PC <- (PC + 1) mod 2^16` (R104). -/
def fetchByte (s : State) (k : Byte → State → Result) : Result :=
  memRead s.pc s fun v t => k v (t.setPC (s.pc + 1))

/-- That many FetchByte calls, in order. -/
def fetchBytes : Nat → State → (List Byte → State → Result) → Result
  | 0, s, k => k [] s
  | n + 1, s, k => fetchByte s fun v t => fetchBytes n t fun vs u => k (v :: vs) u

/-- Fetch one instruction and hand it on (R111): the opcode; then, by the length the opcode fixes (R110), the CB byte
or the immediates. Every body of 40_loads8.md to 46_misc.md makes its FetchByte calls before anything else, so they are
made here (log entry 23). No bytes lead to the refusal (R112, R302). -/
def fetchInstr (s : State) (k : Instr → State → Result) : Result :=
  fetchByte s fun o t =>
    fetchBytes (opLength o - 1) t fun rest u =>
      match decode (o :: rest) with
      | .ok (i, _) => k i u
      | .error _ => .refused (.opcodeNotImplemented (o :: rest))

/-- The state after one FetchByte that did not fault. -/
def State.fetched (s : State) : State := (s.afterRead s.pc).setPC (s.pc + 1)

/-- The state after `n` FetchByte calls that did not fault. -/
def State.afterFetch : Nat → State → State
  | 0, s => s
  | n + 1, s => State.afterFetch n s.fetched

/-- The bytes that `n` FetchByte calls return. -/
def State.fetchedBytes : Nat → State → List Byte
  | 0, _ => []
  | n + 1, s => s.busValue s.pc :: State.fetchedBytes n s.fetched

/-- Store bytes in the flat RAM from an address on, addresses modulo 2^16 (R60): what the host does with a program's
bytes before a run (spec/70_reset_and_hazards.md R335). -/
def placeBytes : List Byte → Word → Memory → Memory
  | [], _, m => m
  | v :: rest, addr, m => placeBytes rest (addr + 1) (Memory.write m addr.toNat v)

end Sys2Proof.Machine
end

