-- ==== Sys2Proof/Machine/Step.lean ====
section
/-! DEFINITION. The step operation (spec/30_encoding.md R111), and placing an instruction where the next step fetches
it. -/

namespace Sys2Proof.Machine

/-- step(): fetch, decode and execute exactly one instruction (R111), its trace starting empty (R69). A core that was
never reset faults (R31, D6). -/
def step (s : State) : Host.Outcome State Fault Refusal :=
  if s.wasReset then fetchInstr s.beginStep exec else .fault .notReset

/-- `s` with the instruction whose bits are `w` stored where the next step fetches it: at PC in the flat RAM, as the
host loads a program (R335). The fetch needs a core that was reset and is bound to the flat-RAM bus (log entry 26). -/
def State.withFetchWord (s : State) (nbits w : Nat) : State :=
  { s with bus := .flatRam, mem := placeBytes (tableBytes nbits w) s.pc s.mem, wasReset := true }

end Sys2Proof.Machine
end

