-- ==== Sys2Proof/Machine/Contract.lean ====
section
/-! DEFINITION. The spec's summary tables, form by form: which registers a form may write (spec/10_state.md R26), what it
does to each flag (R27), where it stores, and its tick sequence (spec/70_reset_and_hazards.md R341). No meaning uses
them: the statements hold the meanings against them. -/

namespace Sys2Proof

namespace Machine

/-- The ten registers of the snapshot (R29). -/
inductive Register where
  | a | f | b | c | d | e | h | l | sp | pc
deriving DecidableEq, Repr

/-- The value of a register, as a number. -/
def State.value (r : Register) (s : State) : Nat :=
  match r with
  | .a => s.a.toNat | .f => s.f.toNat | .b => s.b.toNat | .c => s.c.toNat | .d => s.d.toNat | .e => s.e.toNat
  | .h => s.h.toNat | .l => s.l.toNat | .sp => s.sp.toNat | .pc => s.pc.toNat

/-- The register a code names. -/
def regOf : Reg8 → Register
  | .b => .b | .c => .c | .d => .d | .e => .e | .h => .h | .l => .l | .a => .a

/-- The registers a pair view or SP stores in (R21). -/
def regsOfPair : Reg16 → List Register
  | .bc => [.b, .c] | .de => [.d, .e] | .hl => [.h, .l] | .sp => [.sp]

/-- The registers a stack pair stores in (R21). -/
def regsOfStackPair : StackPair → List Register
  | .bc => [.b, .c] | .de => [.d, .e] | .hl => [.h, .l] | .af => [.a, .f]

/-- The registers a CB target stores in (R234). -/
def regsOfTarget : Target8 → List Register
  | .reg r => [regOf r]
  | .atHL => []

/-- The address a CB target is written back to, if any (R234). -/
def storesOfTarget (x : Target8) (s : State) : List Word :=
  match x with
  | .reg _ => []
  | .atHL => [s.hl]

/-- The two addresses a push writes, in order (spec/41_loads16.md R177). -/
def storesOfPush (s : State) : List Word := [s.sp - 1, s.sp - 2]

/-- What a form does to a flag: "- = preserved, 0/1 = forced", or computed (spec/00_scope.md R8). -/
inductive FlagEffect where
  | preserved | zero | one | computed
deriving DecidableEq, Repr

/-- The columns Z N H C of a row of R27. -/
def flagRow (z n h c : FlagEffect) : Flag → FlagEffect
  | .z => z | .n => n | .h => h | .c => c

/-- Whether a flag before and after agree with an effect. -/
def FlagEffect.holds (e : FlagEffect) (before after : Bool) : Prop :=
  match e with
  | .preserved => after = before
  | .zero => after = false
  | .one => after = true
  | .computed => True

/-- A letter of the sequences of R341. -/
inductive TickKind where
  | R | W | I
deriving DecidableEq, Repr

/-- The letter of a tick record. -/
def Tick.kind : Tick → TickKind
  | .read _ _ => .R
  | .write _ _ => .W
  | .internal => .I

/-- The address of a write tick. -/
def Tick.storeAddr : Tick → Option Word
  | .read _ _ => none
  | .write x _ => some x
  | .internal => none

/-- Whether a tick record matches an entry `[addr, value, mode]` of a vector's `cycles`: mode "r-m" for a read, "-wm" for
a write, and "---" for an internal cycle, whose address and value are not compared. -/
def Tick.matchesEntry (t : Tick) (addr : Nat) (value : Nat) (mode : String) : Bool :=
  match t with
  | .read x v => mode == "r-m" && x.toNat == addr && v.toNat == value
  | .write x v => mode == "-wm" && x.toNat == addr && v.toNat == value
  | .internal => mode == "---"

end Machine

open Machine

/-- The registers a form may write after its bytes are fetched (R26; F by R27). -/
def Form.writes : Form → List Register
  | .ldRR dst _ => [regOf dst]
  | .ldRN dst _ => [regOf dst]
  | .ldRAtHL dst => [regOf dst]
  | .ldAtHLR _ => []
  | .ldAtHLN _ => []
  | .ldAAtBC => [.a]
  | .ldAAtDE => [.a]
  | .ldAAtNN _ => [.a]
  | .ldAtBCA => []
  | .ldAtDEA => []
  | .ldAtNNA _ => []
  | .ldAAtHLInc => [.a, .h, .l]
  | .ldAAtHLDec => [.a, .h, .l]
  | .ldAtHLIncA => [.h, .l]
  | .ldAtHLDecA => [.h, .l]
  | .ldhAAtN _ => [.a]
  | .ldhAtNA _ => []
  | .ldhAAtC => [.a]
  | .ldhAtCA => []
  | .ldRRNN rr _ => regsOfPair rr
  | .ldAtNNSP _ => []
  | .ldSPHL => [.sp]
  | .ldHLSPE _ => [.h, .l, .f]
  | .push _ => [.sp]
  | .pop p => .sp :: regsOfStackPair p
  | .alu .cp _ => [.f]
  | .alu _ _ => [.a, .f]
  | .incR r => [regOf r, .f]
  | .incAtHL => [.f]
  | .decR r => [regOf r, .f]
  | .decAtHL => [.f]
  | .incRR rr => regsOfPair rr
  | .decRR rr => regsOfPair rr
  | .addHLRR _ => [.h, .l, .f]
  | .addSPE _ => [.sp, .f]
  | .rotA _ => [.a, .f]
  | .rot _ x => .f :: regsOfTarget x
  | .bit _ _ => [.f]
  | .res _ x => regsOfTarget x
  | .set _ x => regsOfTarget x
  | .jr _ => [.pc]
  | .jrCc _ _ => [.pc]
  | .jp _ => [.pc]
  | .jpCc _ _ => [.pc]
  | .jpHL => [.pc]
  | .call _ => [.sp, .pc]
  | .callCc _ _ => [.sp, .pc]
  | .ret => [.sp, .pc]
  | .retCc _ => [.sp, .pc]
  | .reti => [.sp, .pc]
  | .rst _ => [.sp, .pc]
  | .nop => []
  | .daa => [.a, .f]
  | .cpl => [.a, .f]
  | .scf => [.f]
  | .ccf => [.f]
  | .di => []
  | .ei => []
  | .halt => []
  | .stop => []
  | .illegal _ => []

/-- Whether the condition of a form holds; a form without one is always taken (R260). -/
def Form.taken (form : Form) (s : State) : Bool :=
  match form with
  | .jrCc cc _ => s.cond cc
  | .jpCc cc _ => s.cond cc
  | .callCc cc _ => s.cond cc
  | .retCc cc => s.cond cc
  | .ldRR _ _ => true
  | .ldRN _ _ => true
  | .ldRAtHL _ => true
  | .ldAtHLR _ => true
  | .ldAtHLN _ => true
  | .ldAAtBC => true
  | .ldAAtDE => true
  | .ldAAtNN _ => true
  | .ldAtBCA => true
  | .ldAtDEA => true
  | .ldAtNNA _ => true
  | .ldAAtHLInc => true
  | .ldAAtHLDec => true
  | .ldAtHLIncA => true
  | .ldAtHLDecA => true
  | .ldhAAtN _ => true
  | .ldhAtNA _ => true
  | .ldhAAtC => true
  | .ldhAtCA => true
  | .ldRRNN _ _ => true
  | .ldAtNNSP _ => true
  | .ldSPHL => true
  | .ldHLSPE _ => true
  | .push _ => true
  | .pop _ => true
  | .alu _ _ => true
  | .incR _ => true
  | .incAtHL => true
  | .decR _ => true
  | .decAtHL => true
  | .incRR _ => true
  | .decRR _ => true
  | .addHLRR _ => true
  | .addSPE _ => true
  | .rotA _ => true
  | .rot _ _ => true
  | .bit _ _ => true
  | .res _ _ => true
  | .set _ _ => true
  | .jr _ => true
  | .jp _ => true
  | .jpHL => true
  | .call _ => true
  | .ret => true
  | .reti => true
  | .rst _ => true
  | .nop => true
  | .daa => true
  | .cpl => true
  | .scf => true
  | .ccf => true
  | .di => true
  | .ei => true
  | .halt => true
  | .stop => true
  | .illegal _ => true

/-- The addresses a form stores to, in order, from the state its meaning starts in. -/
def Form.stores (form : Form) (s : State) : List Word :=
  match form with
  | .ldAtHLR _ => [s.hl]
  | .ldAtHLN _ => [s.hl]
  | .ldAtBCA => [s.bc]
  | .ldAtDEA => [s.de]
  | .ldAtNNA nn => [nn]
  | .ldAtHLIncA => [s.hl]
  | .ldAtHLDecA => [s.hl]
  | .ldhAtNA n => [highPage n]
  | .ldhAtCA => [highPage s.c]
  | .ldAtNNSP nn => [nn, nn + 1]
  | .push _ => storesOfPush s
  | .incAtHL => [s.hl]
  | .decAtHL => [s.hl]
  | .rot _ x => storesOfTarget x s
  | .res _ x => storesOfTarget x s
  | .set _ x => storesOfTarget x s
  | .call _ => storesOfPush s
  | .callCc cc _ => if s.cond cc then storesOfPush s else []
  | .rst _ => storesOfPush s
  | .ldRR _ _ => []
  | .ldRN _ _ => []
  | .ldRAtHL _ => []
  | .ldAAtBC => []
  | .ldAAtDE => []
  | .ldAAtNN _ => []
  | .ldAAtHLInc => []
  | .ldAAtHLDec => []
  | .ldhAAtN _ => []
  | .ldhAAtC => []
  | .ldRRNN _ _ => []
  | .ldSPHL => []
  | .ldHLSPE _ => []
  | .pop _ => []
  | .alu _ _ => []
  | .incR _ => []
  | .decR _ => []
  | .incRR _ => []
  | .decRR _ => []
  | .addHLRR _ => []
  | .addSPE _ => []
  | .rotA _ => []
  | .bit _ _ => []
  | .jr _ => []
  | .jrCc _ _ => []
  | .jp _ => []
  | .jpCc _ _ => []
  | .jpHL => []
  | .ret => []
  | .retCc _ => []
  | .reti => []
  | .nop => []
  | .daa => []
  | .cpl => []
  | .scf => []
  | .ccf => []
  | .di => []
  | .ei => []
  | .halt => []
  | .stop => []
  | .illegal _ => []

/-- The table R27. -/
def Form.flagEffect : Form → Flag → FlagEffect
  | .alu .add _ => flagRow .computed .zero .computed .computed
  | .alu .adc _ => flagRow .computed .zero .computed .computed
  | .alu .sub _ => flagRow .computed .one .computed .computed
  | .alu .sbc _ => flagRow .computed .one .computed .computed
  | .alu .cp _ => flagRow .computed .one .computed .computed
  | .alu .and _ => flagRow .computed .zero .one .zero
  | .alu .xor _ => flagRow .computed .zero .zero .zero
  | .alu .or _ => flagRow .computed .zero .zero .zero
  | .incR _ => flagRow .computed .zero .computed .preserved
  | .incAtHL => flagRow .computed .zero .computed .preserved
  | .decR _ => flagRow .computed .one .computed .preserved
  | .decAtHL => flagRow .computed .one .computed .preserved
  | .addHLRR _ => flagRow .preserved .zero .computed .computed
  | .addSPE _ => flagRow .zero .zero .computed .computed
  | .ldHLSPE _ => flagRow .zero .zero .computed .computed
  | .rotA _ => flagRow .zero .zero .zero .computed
  | .rot .swap _ => flagRow .computed .zero .zero .zero
  | .rot _ _ => flagRow .computed .zero .zero .computed
  | .bit _ _ => flagRow .computed .zero .one .preserved
  | .daa => flagRow .computed .preserved .zero .computed
  | .cpl => flagRow .preserved .one .one .preserved
  | .scf => flagRow .preserved .zero .zero .one
  | .ccf => flagRow .preserved .zero .zero .computed
  | .pop .af => flagRow .computed .computed .computed .computed
  | .ldRR _ _ => flagRow .preserved .preserved .preserved .preserved
  | .ldRN _ _ => flagRow .preserved .preserved .preserved .preserved
  | .ldRAtHL _ => flagRow .preserved .preserved .preserved .preserved
  | .ldAtHLR _ => flagRow .preserved .preserved .preserved .preserved
  | .ldAtHLN _ => flagRow .preserved .preserved .preserved .preserved
  | .ldAAtBC => flagRow .preserved .preserved .preserved .preserved
  | .ldAAtDE => flagRow .preserved .preserved .preserved .preserved
  | .ldAAtNN _ => flagRow .preserved .preserved .preserved .preserved
  | .ldAtBCA => flagRow .preserved .preserved .preserved .preserved
  | .ldAtDEA => flagRow .preserved .preserved .preserved .preserved
  | .ldAtNNA _ => flagRow .preserved .preserved .preserved .preserved
  | .ldAAtHLInc => flagRow .preserved .preserved .preserved .preserved
  | .ldAAtHLDec => flagRow .preserved .preserved .preserved .preserved
  | .ldAtHLIncA => flagRow .preserved .preserved .preserved .preserved
  | .ldAtHLDecA => flagRow .preserved .preserved .preserved .preserved
  | .ldhAAtN _ => flagRow .preserved .preserved .preserved .preserved
  | .ldhAtNA _ => flagRow .preserved .preserved .preserved .preserved
  | .ldhAAtC => flagRow .preserved .preserved .preserved .preserved
  | .ldhAtCA => flagRow .preserved .preserved .preserved .preserved
  | .ldRRNN _ _ => flagRow .preserved .preserved .preserved .preserved
  | .ldAtNNSP _ => flagRow .preserved .preserved .preserved .preserved
  | .ldSPHL => flagRow .preserved .preserved .preserved .preserved
  | .push _ => flagRow .preserved .preserved .preserved .preserved
  | .pop .bc => flagRow .preserved .preserved .preserved .preserved
  | .pop .de => flagRow .preserved .preserved .preserved .preserved
  | .pop .hl => flagRow .preserved .preserved .preserved .preserved
  | .incRR _ => flagRow .preserved .preserved .preserved .preserved
  | .decRR _ => flagRow .preserved .preserved .preserved .preserved
  | .res _ _ => flagRow .preserved .preserved .preserved .preserved
  | .set _ _ => flagRow .preserved .preserved .preserved .preserved
  | .jr _ => flagRow .preserved .preserved .preserved .preserved
  | .jrCc _ _ => flagRow .preserved .preserved .preserved .preserved
  | .jp _ => flagRow .preserved .preserved .preserved .preserved
  | .jpCc _ _ => flagRow .preserved .preserved .preserved .preserved
  | .jpHL => flagRow .preserved .preserved .preserved .preserved
  | .call _ => flagRow .preserved .preserved .preserved .preserved
  | .callCc _ _ => flagRow .preserved .preserved .preserved .preserved
  | .ret => flagRow .preserved .preserved .preserved .preserved
  | .retCc _ => flagRow .preserved .preserved .preserved .preserved
  | .reti => flagRow .preserved .preserved .preserved .preserved
  | .rst _ => flagRow .preserved .preserved .preserved .preserved
  | .nop => flagRow .preserved .preserved .preserved .preserved
  | .di => flagRow .preserved .preserved .preserved .preserved
  | .ei => flagRow .preserved .preserved .preserved .preserved
  | .halt => flagRow .preserved .preserved .preserved .preserved
  | .stop => flagRow .preserved .preserved .preserved .preserved
  | .illegal _ => flagRow .preserved .preserved .preserved .preserved

open TickKind in
/-- The table R341: the tick sequence of a whole step, its fetches included; for a conditional form by whether it is
taken. -/
def Form.sequence (form : Form) (taken : Bool) : List TickKind :=
  match form with
  | .ldRR _ _ => [R]
  | .ldRN _ _ => [R, R]
  | .ldRAtHL _ => [R, R]
  | .ldAtHLR _ => [R, W]
  | .ldAtHLN _ => [R, R, W]
  | .ldAAtBC => [R, R]
  | .ldAAtDE => [R, R]
  | .ldAAtNN _ => [R, R, R, R]
  | .ldAtBCA => [R, W]
  | .ldAtDEA => [R, W]
  | .ldAtNNA _ => [R, R, R, W]
  | .ldAAtHLInc => [R, R]
  | .ldAAtHLDec => [R, R]
  | .ldAtHLIncA => [R, W]
  | .ldAtHLDecA => [R, W]
  | .ldhAAtN _ => [R, R, R]
  | .ldhAtNA _ => [R, R, W]
  | .ldhAAtC => [R, R]
  | .ldhAtCA => [R, W]
  | .ldRRNN _ _ => [R, R, R]
  | .ldAtNNSP _ => [R, R, R, W, W]
  | .ldSPHL => [R, I]
  | .ldHLSPE _ => [R, R, I]
  | .push _ => [R, I, W, W]
  | .pop _ => [R, R, R]
  | .alu _ (.reg _) => [R]
  | .alu _ .atHL => [R, R]
  | .alu _ (.imm _) => [R, R]
  | .incR _ => [R]
  | .decR _ => [R]
  | .incAtHL => [R, R, W]
  | .decAtHL => [R, R, W]
  | .incRR _ => [R, I]
  | .decRR _ => [R, I]
  | .addHLRR _ => [R, I]
  | .addSPE _ => [R, R, I, I]
  | .rotA _ => [R]
  | .rot _ (.reg _) => [R, R]
  | .bit _ (.reg _) => [R, R]
  | .res _ (.reg _) => [R, R]
  | .set _ (.reg _) => [R, R]
  | .rot _ .atHL => [R, R, R, W]
  | .res _ .atHL => [R, R, R, W]
  | .set _ .atHL => [R, R, R, W]
  | .bit _ .atHL => [R, R, R]
  | .jr _ => [R, R, I]
  | .jrCc _ _ => if taken then [R, R, I] else [R, R]
  | .jp _ => [R, R, R, I]
  | .jpCc _ _ => if taken then [R, R, R, I] else [R, R, R]
  | .jpHL => [R]
  | .call _ => [R, R, R, I, W, W]
  | .callCc _ _ => if taken then [R, R, R, I, W, W] else [R, R, R]
  | .ret => [R, R, R, I]
  | .reti => [R, R, R, I]
  | .retCc _ => if taken then [R, I, R, R, I] else [R, I]
  | .rst _ => [R, I, W, W]
  | .nop => [R]
  | .daa => [R]
  | .cpl => [R]
  | .scf => [R]
  | .ccf => [R]
  | .di => [R]
  | .ei => [R]
  | .halt => [R, I, I]
  | .stop => [R, I, I]
  | .illegal _ => [R]

end Sys2Proof
end

