-- ==== Sys2Proof/Safety.lean ====
section
/-! DEFINITION. What counts as a legal state, a safe run, and what "leaves everything else unchanged" means, in the terms
the statements use. -/

namespace Sys2Proof.Machine

/-- A legal state of a core that was reset: "F & 0x0F = 0 in every state the core reaches" (spec/10_state.md R22, R30),
and the flat RAM's list is in its canonical form. -/
def State.Legal (s : State) : Prop := s.f &&& 0x0F = 0 ∧ Memory.wf s.mem ∧ s.wasReset = true

/-- No error is recorded: the premise of a claim about a run (92_eei_decisions.md D3). That a bus error breaks it too is
the model's choice (log entry 31). -/
def State.NoError (s : State) : Prop := s.errors = []

/-- The last bus access among the ticks of a trace: what the bus's last-access record holds after it (R67, R69). -/
def lastBusTick : List Tick → Option BusAccess
  | [] => none
  | t :: rest =>
    match lastBusTick rest, t with
    | some acc, _ => some acc
    | none, .read x v => some ⟨x, v, .read⟩
    | none, .write x v => some ⟨x, v, .write⟩
    | none, .internal => none

/-- Every register outside the list is unchanged. -/
def KeepsOtherRegisters (written : List Register) (s t : State) : Prop :=
  ∀ r : Register, r ∉ written → t.value r = s.value r

/-- Every byte of memory outside the listed addresses reads as before. -/
def KeepsOtherMemory (stored : List Word) (s t : State) : Prop :=
  ∀ x : Nat, (∀ w ∈ stored, w.toNat ≠ x) → Memory.read t.mem x = Memory.read s.mem x

/-- What no instruction changes: the bus the core is bound to, the callback, the errors recorded, the reset flag, the
draws of free values. -/
def KeepsSetup (s t : State) : Prop :=
  t.bus = s.bus ∧ t.callback = s.callback ∧ t.errors = s.errors ∧ t.wasReset = s.wasReset ∧ t.draws = s.draws

/-- The frame of an instruction: only the listed registers and the listed bytes of memory may change. -/
def Frame (written : List Register) (stored : List Word) (s t : State) : Prop :=
  KeepsOtherRegisters written s t ∧ KeepsOtherMemory stored s t ∧ KeepsSetup s t

/-- On the flat-RAM bus the byte at an address is the byte stored there. -/
def HoldsByte (addr : Word) (v : Byte) (s t : State) : Prop :=
  s.bus = .flatRam → Memory.read t.mem addr.toNat = v

/-- A result written back to a CB target (spec/44_rotate_shift_bit.md R234): into the register, with no tick after the
fetches; or into the byte at HL, one read and one write, both at HL. -/
def WrittenBack (x : Target8) (res : Byte) (s t : State) : Prop :=
  match x with
  | .reg r => t.reg8 r = res ∧ t.trace = s.trace
  | .atHL => t.trace = s.trace ++ [.read s.hl (s.busValue s.hl), .write s.hl res] ∧ HoldsByte s.hl res s t

/-- The address of the instruction after this one was pushed (spec/45_control.md R266, R271): high byte at SP - 1, low
byte at SP - 2. -/
def ReturnAddressPushed (s t : State) : Prop :=
  t.sp = s.sp - 2 ∧
  t.trace = s.trace ++ [.internal, .write (s.sp - 1) (hiByte s.pc), .write (s.sp - 2) (loByte s.pc)] ∧
  HoldsByte (s.sp - 1) (hiByte s.pc) s t ∧ HoldsByte (s.sp - 2) (loByte s.pc) s t

/-- The return address was popped into PC (R268): low byte from SP, high byte from SP + 1, then one internal tick. -/
def ReturnAddressPopped (s t : State) : Prop :=
  t.pc = wordOf ((s.afterRead s.sp).busValue (s.sp + 1)) (s.busValue s.sp) ∧ t.sp = s.sp + 2 ∧
  t.trace = s.trace ++ [.read s.sp (s.busValue s.sp),
    .read (s.sp + 1) ((s.afterRead s.sp).busValue (s.sp + 1)), .internal]

/-- The same machine with no callback installed and nothing observed: all a callback could tell apart is taken away
(spec/20_memory.md R68, D9). -/
def State.unobserved (s : State) : State := { s with callback := false, observed := [] }

end Sys2Proof.Machine
end

