-- ==== Sys2Proof/Certificates/Slice0/Obligations.lean ====
section
/-! DEFINITION. The statements for the provers. A statement about an instruction names its constructors by their form
(`Instr.form`, Decode.lean): `i.form = .ldRR dst src` says that `i` is one of the 49 rows LD r,r'. The state given to
`exec` is the one after the fetch, PC at the next instruction (`StepRunsDecodedInstruction`). -/

open Sys2Proof Sys2Proof.Machine

/-! ### Reset -/

/-- The reset operation (R330, R332): every register is the snapshot's field or zero, F masked (the mask is the spec's
decision D5); memory, bus and callback as they were; no tick. The cleared error record is the model's choice (log
entry 19). -/
def Obligations.ResetInstallsSnapshot : Prop :=
  ∀ (snap : Snapshot) (s : State),
    (s.resetWith snap).a = snap.a.getD 0 ∧ (s.resetWith snap).f = snap.f.getD 0 &&& 0xF0 ∧
    (s.resetWith snap).b = snap.b.getD 0 ∧ (s.resetWith snap).c = snap.c.getD 0 ∧
    (s.resetWith snap).d = snap.d.getD 0 ∧ (s.resetWith snap).e = snap.e.getD 0 ∧
    (s.resetWith snap).h = snap.h.getD 0 ∧ (s.resetWith snap).l = snap.l.getD 0 ∧
    (s.resetWith snap).sp = snap.sp.getD 0 ∧ (s.resetWith snap).pc = snap.pc.getD 0 ∧
    (s.resetWith snap).mem = s.mem ∧ (s.resetWith snap).bus = s.bus ∧ (s.resetWith snap).busLog = s.busLog ∧
    (s.resetWith snap).lastAccess = s.lastAccess ∧ (s.resetWith snap).callback = s.callback ∧
    (s.resetWith snap).trace = [] ∧ (s.resetWith snap).errors = [] ∧ (s.resetWith snap).wasReset = true

/-- State.reset is the reset with the empty snapshot of a core bound to a zeroed flat RAM (log entry 16): every register
is zero (R30, R331), so "with an empty snapshot execution starts at 0x0000". -/
def Obligations.ResetStateIsAllZero : Prop :=
  (∀ r : Register, State.reset.value r = 0) ∧
  (∀ addr : Word, State.reset.busValue addr = 0) ∧
  State.reset = (State.construct .flatRam []).resetWith {}

/-- A step on a core that was never reset faults (R31; the spec's decision D6). -/
def Obligations.StepBeforeResetFaults : Prop :=
  (∀ (bus : BusKind) (m : Memory), step (State.construct bus m) = .fault .notReset) ∧
  (∀ s : State, s.wasReset = false → step s = .fault .notReset)

/-- Reset leaves a legal state whatever the snapshot: F's low nibble is zero (D5, C2). -/
def Obligations.ResetLeavesLegalState : Prop :=
  State.reset.Legal ∧ ∀ (snap : Snapshot) (s : State), Memory.wf s.mem → (s.resetWith snap).Legal

/-! ### Registers and flags -/

/-- The pair views (R21): a read is high ++ low; a write is seen in both bytes at once, F through its mask; no other
register changes. -/
def Obligations.PairViewsShareBytes : Prop :=
  ∀ (s : State) (v : Word),
    s.bc.toNat = 256 * s.b.toNat + s.c.toNat ∧ s.de.toNat = 256 * s.d.toNat + s.e.toNat ∧
    s.hl.toNat = 256 * s.h.toNat + s.l.toNat ∧ s.af.toNat = 256 * s.a.toNat + s.f.toNat ∧
    (s.setBC v).bc = v ∧ (s.setDE v).de = v ∧ (s.setHL v).hl = v ∧
    (s.setBC v).b.toNat = v.toNat / 256 ∧ (s.setBC v).c.toNat = v.toNat % 256 ∧
    (s.setDE v).d.toNat = v.toNat / 256 ∧ (s.setDE v).e.toNat = v.toNat % 256 ∧
    (s.setHL v).h.toNat = v.toNat / 256 ∧ (s.setHL v).l.toNat = v.toNat % 256 ∧
    (s.setAF v).a.toNat = v.toNat / 256 ∧ (s.setAF v).f.toNat = v.toNat % 256 / 16 * 16 ∧
    Frame [.b, .c] [] s (s.setBC v) ∧ Frame [.d, .e] [] s (s.setDE v) ∧
    Frame [.h, .l] [] s (s.setHL v) ∧ Frame [.a, .f] [] s (s.setAF v)

/-- F (R22, R23): a write of F as a whole keeps only bits 7..4; a flag is its bit of F; a write of one flag leaves the
other three; toggle inverts one flag; the low nibble is zero after each; all four flags written together are the number
`(z<<7) | (n<<6) | (h<<5) | (c<<4)`. -/
def Obligations.FlagRegisterWrites : Prop :=
  ∀ (s : State) (v : Byte) (x y : Flag) (b : Bool),
    (s.setF v).f.toNat = v.toNat / 16 * 16 ∧
    s.flag .z = decide (s.f.toNat / 128 % 2 = 1) ∧ s.flag .n = decide (s.f.toNat / 64 % 2 = 1) ∧
    s.flag .h = decide (s.f.toNat / 32 % 2 = 1) ∧ s.flag .c = decide (s.f.toNat / 16 % 2 = 1) ∧
    (s.setFlag x b).flag y = (if x = y then b else s.flag y) ∧
    (s.toggleFlag x).flag y = (if x = y then !s.flag y else s.flag y) ∧
    (s.setFlag x b).f.toNat % 16 = 0 ∧ (s.toggleFlag x).f.toNat % 16 = 0 ∧
    (∀ z n h c : Bool, (s.setFlags z n h c).f.toNat =
      128 * z.toNat + 64 * n.toNat + 32 * h.toNat + 16 * c.toNat ∧ Frame [.f] [] s (s.setFlags z n h c)) ∧
    Frame [.f] [] s (s.setF v) ∧ Frame [.f] [] s (s.setFlag x b) ∧ Frame [.f] [] s (s.toggleFlag x)

/-! ### The bus and memory -/

/-- The flat-RAM bus (R67): a read returns the byte at the address and changes no byte; a write sets that byte and no
other; it never faults; the last-access record holds the access; every byte is zero at first (of a core constructed
bound to it, no initial byte applied). -/
def Obligations.FlatRamReadAfterWrite : Prop :=
  ∀ (s : State) (addr : Word) (v : Byte), s.bus = .flatRam →
    s.busMayFault = false ∧ s.busValue addr = Memory.read s.mem addr.toNat ∧
    (∀ y : Word, (s.afterWrite addr v).busValue y = if addr = y then v else s.busValue y) ∧
    (∀ y : Word, (s.afterRead addr).busValue y = s.busValue y) ∧
    (s.afterRead addr).mem = s.mem ∧
    (s.afterRead addr).lastAccess = some ⟨addr, s.busValue addr, .read⟩ ∧
    (s.afterWrite addr v).lastAccess = some ⟨addr, v, .write⟩ ∧
    (State.construct .flatRam []).busValue addr = 0

/-- One request to the bus and one tick per access, one tick and no request per internal delay (R51, R52, R53), whatever
the bus answers, and no register touched. -/
def Obligations.EachAccessEmitsOneTick : Prop :=
  ∀ (s : State) (addr : Word) (v : Byte) (kr : Byte → State → Result) (kw : State → Result), s.busMayFault = false →
    (∃ t, memRead addr s kr = kr (s.busValue addr) t ∧
      t.trace = s.trace ++ [.read addr (s.busValue addr)] ∧ t.busLog = s.logAfter (.read addr) ∧
      t.lastAccess = some ⟨addr, s.busValue addr, .read⟩ ∧ Frame [] [] s t) ∧
    (∃ t, memWrite addr v s kw = kw t ∧ t.trace = s.trace ++ [.write addr v] ∧ t.busLog = s.logAfter (.write addr v) ∧
      t.lastAccess = some ⟨addr, v, .write⟩ ∧ HoldsByte addr v s t ∧ Frame [] [addr] s t) ∧
    (s.internal.trace = s.trace ++ [.internal] ∧ Frame [] [] s s.internal ∧ s.internal.mem = s.mem ∧
      s.internal.busLog = s.busLog ∧ s.internal.lastAccess = s.lastAccess)

/-- A bus error (R56, R303, D2): an access either goes on, or ends the step there with the bus's error, the trace
holding the ticks before it; without `busMayFault` it goes on. That the error joins the error record is the model's choice
(log entry 31). -/
def Obligations.BusErrorEndsTheStep : Prop :=
  ∀ (s : State) (addr : Word) (v : Byte) (kr : Byte → State → Result) (kw : State → Result),
    (memRead addr s kr = kr (s.busValue addr) (s.afterRead addr) ∨
      s.busMayFault = true ∧ ∃ info t, memRead addr s kr = .fault (.busError info t) ∧ t.trace = s.trace ∧
        t.mem = s.mem ∧ t.errors = .busError info :: s.errors ∧ t.f &&& 0x0F = 0) ∧
    (memWrite addr v s kw = kw (s.afterWrite addr v) ∨
      s.busMayFault = true ∧ ∃ info t, memWrite addr v s kw = .fault (.busError info t) ∧ t.trace = s.trace ∧
        t.mem = s.mem ∧ t.errors = .busError info :: s.errors ∧ t.f &&& 0x0F = 0)

/-! ### Encoding -/

/-- The maps R107 and R108 (the decoder) and the field patterns R101 to R103, R106 (the encoder) agree on every
instruction, at every value of its immediate. All of them are the spec's decision D16. -/
def Obligations.DecodeOfEncodeIsTheInstruction : Prop :=
  ∀ (i : Instr) (rest : List Byte), decode (encode i ++ rest) = .ok (i, rest)

/-- No byte is dropped or invented by the decoder: what it reads encodes to the bytes it took (R100, R107, R108). -/
def Obligations.EncodeOfDecodeIsTheBytes : Prop :=
  ∀ (bytes rest : List Byte) (i : Instr), decode bytes = .ok (i, rest) → encode i ++ rest = bytes

/-- The decoder is total (R112): any three bytes begin with an instruction, and a single byte that is neither the CB
prefix nor takes an immediate is one by itself. -/
def Obligations.DecoderIsTotal : Prop :=
  (∀ o x y : Byte, ∃ i rest, decode [o, x, y] = .ok (i, rest)) ∧
  (∀ o2 : Byte, ∃ i, decode [0xCB, o2] = .ok (i, []) ∧ i.wf = true) ∧
  (∀ (o : Byte) (rest : List Byte), opLength o ≤ rest.length + 1 → ∃ i rest', decode (o :: rest) = .ok (i, rest'))

/-- "These eleven bytes are the only illegal encodings" (R109): a first byte decodes to an illegal row exactly when it is
one of them, and then it takes no operand byte, and executing it is the error carrying the byte. -/
def Obligations.IllegalBytesAreTheEleven : Prop :=
  ∀ (o x y : Byte) (i : Instr) (rest : List Byte), decode [o, x, y] = .ok (i, rest) →
    (i.wf = false ↔ o ∈ [0xD3, 0xDB, 0xDD, 0xE3, 0xE4, 0xEB, 0xEC, 0xED, 0xF4, 0xFC, 0xFD]) ∧
    (i.wf = false → i.form = .illegal o ∧ rest = [x, y] ∧
      ∀ s : State, ∃ t, exec i s = .fault (.illegalOpcode o t))

/-- Words written out bit by bit from the patterns of R101 and the bytes FB gives. -/
def Obligations.WrittenOutWordsDecode : Prop :=
  decodeTableWord 8 0b00000000 = some .nop ∧
  decodeTableWord 16 0b0100001000000110 = some (.ld_b_n 0x42) ∧
  decodeTableWord 8 0b01000001 = some .ld_b_c ∧
  decodeTableWord 8 0b11000101 = some .push_bc ∧
  decodeTableWord 8 0b10001111 = some .adc_a_a ∧
  decodeTableWord 8 0b00111001 = some .add_hl_sp ∧
  decodeTableWord 24 0b000000100000000011001101 = some (.call_nn 0x0200) ∧
  decodeTableWord 16 0b1100101100110111 = some .swap_a ∧
  decodeTableWord 16 0b1100101111111110 = some .set_7_atHL ∧
  decodeTableWord 8 0b00100111 = some .daa ∧
  decodeTableWord 8 0b11010011 = some .illegal_D3

/-- Immediate operands (R105): nn low byte first, e signed. -/
def Obligations.ImmediateOperandValues : Prop :=
  (∀ (lo hi : Byte) (rest : List Byte), ∃ nn : Word, decode (0xCD :: lo :: hi :: rest) = .ok (.call_nn nn, rest) ∧
    nn.toNat = 256 * hi.toNat + lo.toNat) ∧
  (∀ (n : Byte) (rest : List Byte), decode (0x06 :: n :: rest) = .ok (.ld_b_n n, rest)) ∧
  (∀ e : Byte, (sext16 e).toInt = e.toInt ∧
    (sext16 e).toNat = if e.toNat < 0x80 then e.toNat else 0xFF00 + e.toNat)

/-! ### The step -/

/-- A step runs the decoded instruction (R111): when the bytes at PC, as many as the first one says, decode to `i`, the
step is `exec i` in the state after exactly that many FetchByte calls, begun with an empty trace. That the immediates are
fetched before anything else of the body is deduced (log entry 23). -/
def Obligations.StepRunsDecodedInstruction : Prop :=
  ∀ (s : State) (i : Instr) (rest : List Byte), s.wasReset = true → s.busMayFault = false →
    decode (s.beginStep.fetchedBytes (opLength (s.busValue s.pc))) = .ok (i, rest) →
    step s = exec i (s.beginStep.afterFetch i.length)

/-- What `n` FetchByte calls do on the flat RAM (R104): they return the bytes at PC, PC + 1, …, tick once for each in
that order, advance PC by `n` (addresses modulo 2^16, D4), and change nothing else. -/
def Obligations.FetchReadsProgramBytesInOrder : Prop :=
  ∀ (s : State) (n : Nat), s.bus = .flatRam →
    s.beginStep.fetchedBytes n =
      (List.range n).map (fun k => Memory.read s.mem (s.pc + BitVec.ofNat 16 k).toNat) ∧
    (s.beginStep.afterFetch n).pc = s.pc + BitVec.ofNat 16 n ∧
    (s.beginStep.afterFetch n).trace =
      (List.range n).map (fun k => Tick.read (s.pc + BitVec.ofNat 16 k)
        (Memory.read s.mem (s.pc + BitVec.ofNat 16 k).toNat)) ∧
    (s.beginStep.afterFetch n).mem = s.mem ∧ Frame [.pc] [] s (s.beginStep.afterFetch n)

/-- The eleven illegal rows (R109, R300): executing one is the error carrying the byte, with the state left as it is but
for the recorded error (D3; log entry 18). -/
def Obligations.IllegalInstructionRaisesError : Prop :=
  ∀ (i : Instr) (b : Byte) (s : State), i.form = .illegal b →
    exec i s = .fault (.illegalOpcode b { s with errors := .illegalOpcode b :: s.errors })

/-- The illegal-opcode error of a step (R300): one tick, PC = PC0 + 1, every other register and all memory unchanged, the
error carrying the byte; and the host may step on from the state left (R301). That the error is also kept in the state's
record is the spec's decision D3 (log entry 18). -/
def Obligations.IllegalOpcodeEndsStep : Prop :=
  ∀ (s : State) (b : Byte), s.wasReset = true → s.busMayFault = false → s.busValue s.pc = b →
    b ∈ [0xD3, 0xDB, 0xDD, 0xE3, 0xE4, 0xEB, 0xEC, 0xED, 0xF4, 0xFC, 0xFD] →
    ∃ t, step s = .fault (.illegalOpcode b t) ∧ t.pc = s.pc + 1 ∧ KeepsOtherRegisters [.pc] s t ∧ t.mem = s.mem ∧
      t.trace = [.read s.pc b] ∧ t.errors = .illegalOpcode b :: s.errors ∧
      t.bus = s.bus ∧ t.callback = s.callback ∧ t.wasReset = true

/-- The error "Opcode not implemented" is never raised (R302, R112), and no instruction is refused. -/
def Obligations.NothingIsRefused : Prop :=
  (∀ (i : Instr) (s : State) (r : Refusal), exec i s ≠ .refused r) ∧ (∀ (s : State) (r : Refusal), step s ≠ .refused r)

/-- The invariant (R22, R30): every step keeps F's low nibble zero and the memory list canonical. -/
def Obligations.LegalStateKeptByEveryStep : Prop :=
  ∀ s t : State, s.Legal → step s = .next t → t.Legal

/-- An error leaves a legal state too, and stays recorded in front of the earlier ones: an illegal opcode by the spec's
decision D3 (R301; log entry 18), a bus error by the model's choice (log entry 31). -/
def Obligations.ErrorLeavesLegalState : Prop :=
  ∀ (s t : State) (r : Fault), s.Legal → step s = .fault r → r.stateLeft = some t →
    t.Legal ∧ ∃ k, t.errors = k :: s.errors

/-- The callback is invoked exactly once at each tick of a step, in order, and not at all when none is installed; the
bus's last-access record is the step's last access (R67, R68). -/
def Obligations.CallbackSeesEveryTick : Prop :=
  ∀ s t : State, step s = .next t →
    t.observed = (if s.callback then t.trace else []) ∧ t.lastAccess = lastBusTick t.trace ∧ t.trace ≠ []

/-- The callback is an observer only (R68; the spec's decision D9): with none installed the step is the same but for
what was observed. -/
def Obligations.CallbackDoesNotInterfere : Prop :=
  ∀ s t : State, step s = .next t → step s.unobserved = .next t.unobserved

/-- The tick contract (R339) against the table R341, which the spec marks as derived: every one of the 500 instructions
completes when the bus does not fault, and its step emits exactly the table's sequence. Where the internal ticks of
ADD SP,e and LD HL,SP+e fall is the spec's decision D13 (log entry 14), STOP's length and ticks its decision D12 (log
entry 13); which row of a conditional form applies rests on the condition names (93 K11; log entry 9), which byte is
which instruction on the maps (D16; log entry 7). -/
def Obligations.StepTicksFollowTimingTable : Prop :=
  ∀ (s : State) (i : Instr) (rest : List Byte), s.wasReset = true → s.busMayFault = false → i.wf = true →
    decode (s.beginStep.fetchedBytes (opLength (s.busValue s.pc))) = .ok (i, rest) →
    ∃ t, step s = .next t ∧ t.trace.map Tick.kind = i.form.sequence (i.form.taken s)

/-! ### Frames of all instructions -/

/-- The register frame of every instruction: only the registers of the table R26 (F by R27), which the spec marks as
derived, may change. -/
def Obligations.OnlyListedRegistersChange : Prop :=
  ∀ (i : Instr) (s t : State), exec i s = .next t → KeepsOtherRegisters i.form.writes s t

/-- The memory frame of every instruction: only the bytes at its store addresses may change; and no instruction changes
the bus it is bound to, the callback, the errors recorded or the reset flag. The store addresses of the LDH forms rest on
the base 0xFF00 (93 K9; log entry 8), those of CALL cc,nn on the condition names (93 K11; log entry 9), their wrap on the
decision D4 (log entry 12). -/
def Obligations.OnlyStoredBytesChange : Prop :=
  ∀ (i : Instr) (s t : State), exec i s = .next t → KeepsOtherMemory (i.form.stores s) s t ∧ KeepsSetup s t

/-- The flag frame of every instruction, the table R27 (which the spec marks as derived): a flag is preserved or forced
as its cell says; an instruction that preserves all four leaves F as it was. The cells N = 0 and H = 0 of SLA, SRA and
SRL are the spec's general knowledge (93 K10; log entry 10, PRESUMED). -/
def Obligations.FlagEffectsFollowTable : Prop :=
  ∀ (i : Instr) (s t : State), exec i s = .next t →
    (∀ x : Flag, (i.form.flagEffect x).holds (s.flag x) (t.flag x)) ∧
    ((∀ x : Flag, i.form.flagEffect x = .preserved) → t.f = s.f)

/-- Every bus write of an instruction goes to one of its store addresses, in their order, once each (R55, R63). The
addresses of the LDH forms rest on the base 0xFF00 (93 K9; log entry 8), those of CALL cc,nn on the condition names
(93 K11; log entry 9), their wrap on the decision D4 (log entry 12). -/
def Obligations.BusWritesGoToStoreAddresses : Prop :=
  ∀ (i : Instr) (s t : State), exec i s = .next t →
    ∃ ticks : List Tick, t.trace = s.trace ++ ticks ∧ ticks.filterMap Tick.storeAddr = i.form.stores s

/-! ### 8-bit loads -/

/-- LD r,r' (R140), 49 rows. -/
def Obligations.LdRegRegCopies : Prop :=
  ∀ (i : Instr) (dst src : Reg8) (s : State), i.form = .ldRR dst src →
    ∃ t, exec i s = .next t ∧ t.reg8 dst = s.reg8 src ∧ t.trace = s.trace ∧ Frame [regOf dst] [] s t

/-- LD r,n (R141), 7 rows. -/
def Obligations.LdRegImmLoads : Prop :=
  ∀ (i : Instr) (dst : Reg8) (n : Byte) (s : State), i.form = .ldRN dst n →
    ∃ t, exec i s = .next t ∧ t.reg8 dst = n ∧ t.trace = s.trace ∧ Frame [regOf dst] [] s t

/-- LD r,(HL) (R142), 7 rows: "the address used is HL before the write". -/
def Obligations.LdRegAtHLLoads : Prop :=
  ∀ (i : Instr) (dst : Reg8) (s : State), i.form = .ldRAtHL dst → s.busMayFault = false →
    ∃ t, exec i s = .next t ∧ t.reg8 dst = s.busValue s.hl ∧
      t.trace = s.trace ++ [.read s.hl (s.busValue s.hl)] ∧ Frame [regOf dst] [] s t

/-- LD (HL),r (R143), 7 rows, and LD (HL),n (R144). -/
def Obligations.StoreAtHLWritesByte : Prop :=
  (∀ (i : Instr) (src : Reg8) (s : State), i.form = .ldAtHLR src → s.busMayFault = false →
    ∃ t, exec i s = .next t ∧ t.trace = s.trace ++ [.write s.hl (s.reg8 src)] ∧
      HoldsByte s.hl (s.reg8 src) s t ∧ Frame [] [s.hl] s t) ∧
  (∀ (n : Byte) (s : State), s.busMayFault = false →
    ∃ t, exec (.ld_atHL_n n) s = .next t ∧ t.trace = s.trace ++ [.write s.hl n] ∧
      HoldsByte s.hl n s t ∧ Frame [] [s.hl] s t)

/-- LD A,(BC), LD A,(DE), LD A,(nn) (R145, R146, R147). -/
def Obligations.LdAIndirectLoads : Prop :=
  ∀ s : State, s.busMayFault = false →
    (∃ t, exec .ld_a_atBC s = .next t ∧ t.a = s.busValue s.bc ∧
      t.trace = s.trace ++ [.read s.bc (s.busValue s.bc)] ∧ Frame [.a] [] s t) ∧
    (∃ t, exec .ld_a_atDE s = .next t ∧ t.a = s.busValue s.de ∧
      t.trace = s.trace ++ [.read s.de (s.busValue s.de)] ∧ Frame [.a] [] s t) ∧
    (∀ nn : Word, ∃ t, exec (.ld_a_atNN nn) s = .next t ∧ t.a = s.busValue nn ∧
      t.trace = s.trace ++ [.read nn (s.busValue nn)] ∧ Frame [.a] [] s t)

/-- LD (BC),A, LD (DE),A, LD (nn),A (R148, R149, R150). -/
def Obligations.StoreAIndirectWrites : Prop :=
  ∀ s : State, s.busMayFault = false →
    (∃ t, exec .ld_atBC_a s = .next t ∧ t.trace = s.trace ++ [.write s.bc s.a] ∧
      HoldsByte s.bc s.a s t ∧ Frame [] [s.bc] s t) ∧
    (∃ t, exec .ld_atDE_a s = .next t ∧ t.trace = s.trace ++ [.write s.de s.a] ∧
      HoldsByte s.de s.a s t ∧ Frame [] [s.de] s t) ∧
    (∀ nn : Word, ∃ t, exec (.ld_atNN_a nn) s = .next t ∧ t.trace = s.trace ++ [.write nn s.a] ∧
      HoldsByte nn s.a s t ∧ Frame [] [nn] s t)

/-- LD A,(HL+), LD A,(HL-), LD (HL+),A, LD (HL-),A (R151 to R154): the access is at HL before HL changes by 1 modulo
2^16 (the wrap is the spec's decision D4); no flag, no tick for the update. -/
def Obligations.HLStepLoadsAndStores : Prop :=
  ∀ s : State, s.busMayFault = false →
    (∃ t, exec .ld_a_atHLInc s = .next t ∧ t.a = s.busValue s.hl ∧ t.hl.toNat = (s.hl.toNat + 1) % 65536 ∧
      t.trace = s.trace ++ [.read s.hl (s.busValue s.hl)] ∧ Frame [.a, .h, .l] [] s t) ∧
    (∃ t, exec .ld_a_atHLDec s = .next t ∧ t.a = s.busValue s.hl ∧ t.hl.toNat = (s.hl.toNat + 65535) % 65536 ∧
      t.trace = s.trace ++ [.read s.hl (s.busValue s.hl)] ∧ Frame [.a, .h, .l] [] s t) ∧
    (∃ t, exec .ld_atHLInc_a s = .next t ∧ t.hl.toNat = (s.hl.toNat + 1) % 65536 ∧
      t.trace = s.trace ++ [.write s.hl s.a] ∧ HoldsByte s.hl s.a s t ∧ Frame [.h, .l] [s.hl] s t) ∧
    (∃ t, exec .ld_atHLDec_a s = .next t ∧ t.hl.toNat = (s.hl.toNat + 65535) % 65536 ∧
      t.trace = s.trace ++ [.write s.hl s.a] ∧ HoldsByte s.hl s.a s t ∧ Frame [.h, .l] [s.hl] s t)

/-- LDH A,(n), LDH (n),A, LDH A,(C), LDH (C),A (R155 to R158): address 0xFF00 + n or C, unsigned. The base 0xFF00 is from
the spec's general knowledge (R61, 93 K9; log entry 8). -/
def Obligations.HighPageLoadsAndStores : Prop :=
  (∀ n : Byte, (highPage n).toNat = 0xFF00 + n.toNat) ∧
  ∀ s : State, s.busMayFault = false →
    (∀ n : Byte, ∃ t, exec (.ldh_a_atN n) s = .next t ∧ t.a = s.busValue (highPage n) ∧
      t.trace = s.trace ++ [.read (highPage n) (s.busValue (highPage n))] ∧ Frame [.a] [] s t) ∧
    (∀ n : Byte, ∃ t, exec (.ldh_atN_a n) s = .next t ∧ t.trace = s.trace ++ [.write (highPage n) s.a] ∧
      HoldsByte (highPage n) s.a s t ∧ Frame [] [highPage n] s t) ∧
    (∃ t, exec .ldh_a_atC s = .next t ∧ t.a = s.busValue (highPage s.c) ∧
      t.trace = s.trace ++ [.read (highPage s.c) (s.busValue (highPage s.c))] ∧ Frame [.a] [] s t) ∧
    (∃ t, exec .ldh_atC_a s = .next t ∧ t.trace = s.trace ++ [.write (highPage s.c) s.a] ∧
      HoldsByte (highPage s.c) s.a s t ∧ Frame [] [highPage s.c] s t)

/-! ### 16-bit loads and the stack -/

/-- LD rr,nn (R171), 4 rows. -/
def Obligations.LdPairImmLoads : Prop :=
  ∀ (i : Instr) (rr : Reg16) (nn : Word) (s : State), i.form = .ldRRNN rr nn →
    ∃ t, exec i s = .next t ∧ t.reg16 rr = nn ∧ t.trace = s.trace ∧ Frame (regsOfPair rr) [] s t

/-- LD (nn),SP (R172): SP's low byte to nn, then its high byte to nn + 1 modulo 2^16 (the wrap is the spec's
decision D4). -/
def Obligations.StoreSPWritesLowThenHigh : Prop :=
  ∀ (nn : Word) (s : State), s.busMayFault = false →
    ∃ t, exec (.ld_atNN_sp nn) s = .next t ∧
      t.trace = s.trace ++ [.write nn (loByte s.sp), .write (nn + 1) (hiByte s.sp)] ∧
      HoldsByte nn (loByte s.sp) s t ∧ HoldsByte (nn + 1) (hiByte s.sp) s t ∧ Frame [] [nn, nn + 1] s t

/-- LD SP,HL (R173): one internal tick, no flags. -/
def Obligations.LdSPHLCopies : Prop :=
  ∀ s : State, ∃ t, exec .ld_sp_hl s = .next t ∧ t.sp = s.hl ∧ t.trace = s.trace ++ [.internal] ∧ Frame [.sp] [] s t

/-- LD HL,SP+e and ADD SP,e (R170, R174, R223): the signed sum modulo 2^16; Z = N = 0; H and C are the carries of the
UNSIGNED low-byte sum (the reading of R170 that the spec marks as derived). The wrap is the spec's decision D4; where
their internal ticks fall is its decision D13. -/
def Obligations.SPPlusESumsAndFlags : Prop :=
  ∀ (e : Byte) (s : State),
    (∃ t, exec (.ld_hl_spPlusE e) s = .next t ∧ (t.hl.toNat : Int) = ((s.sp.toNat : Int) + e.toInt) % 65536 ∧
      t.flag .z = false ∧ t.flag .n = false ∧ t.flag .h = decide (s.sp.toNat % 16 + e.toNat % 16 > 0x0F) ∧
      t.flag .c = decide (s.sp.toNat % 256 + e.toNat > 0xFF) ∧ t.trace = s.trace ++ [.internal] ∧
      Frame [.h, .l, .f] [] s t) ∧
    (∃ t, exec (.add_sp_e e) s = .next t ∧ (t.sp.toNat : Int) = ((s.sp.toNat : Int) + e.toInt) % 65536 ∧
      t.flag .z = false ∧ t.flag .n = false ∧ t.flag .h = decide (s.sp.toNat % 16 + e.toNat % 16 > 0x0F) ∧
      t.flag .c = decide (s.sp.toNat % 256 + e.toNat > 0xFF) ∧ t.trace = s.trace ++ [.internal, .internal] ∧
      Frame [.sp, .f] [] s t)

/-- PUSH rr (R175, R177), 4 rows: one internal tick, the high byte at SP - 1, then the low byte at SP - 2, modulo
2^16 (the spec's decision D4). -/
def Obligations.PushWritesHighThenLow : Prop :=
  ∀ (i : Instr) (p : StackPair) (s : State), i.form = .push p → s.busMayFault = false →
    ∃ t, exec i s = .next t ∧ t.sp = s.sp - 2 ∧
      t.trace = s.trace ++ [.internal, .write (s.sp - 1) (hiByte (s.pair p)), .write (s.sp - 2) (loByte (s.pair p))] ∧
      HoldsByte (s.sp - 1) (hiByte (s.pair p)) s t ∧ HoldsByte (s.sp - 2) (loByte (s.pair p)) s t ∧
      Frame [.sp] [s.sp - 1, s.sp - 2] s t

/-- POP rr (R176, R178), 4 rows: the low byte from SP, then the high byte from SP + 1, modulo 2^16 (the
spec's decision D4); POP AF masks F. -/
def Obligations.PopReadsLowThenHigh : Prop :=
  ∀ (i : Instr) (p : StackPair) (s : State), i.form = .pop p → s.busMayFault = false →
    ∃ (t : State) (lo hi : Byte), exec i s = .next t ∧ lo = s.busValue s.sp ∧
      hi = (s.afterRead s.sp).busValue (s.sp + 1) ∧
      (p ≠ .af → t.pair p = wordOf hi lo) ∧ (p = .af → t.a = hi ∧ t.f = lo &&& 0xF0) ∧ t.sp = s.sp + 2 ∧
      t.trace = s.trace ++ [.read s.sp lo, .read (s.sp + 1) hi] ∧ Frame (.sp :: regsOfStackPair p) [] s t

/-- PUSH rr then POP rr restores rr and SP on the flat RAM (spec/95_test_vectors.md I7): AF too, F's low nibble being
zero; and CALL nn then RET restores PC and SP (I8). -/
def Obligations.PushPopAndCallReturnRestore : Prop :=
  (∀ (i j : Instr) (p : StackPair) (s : State), i.form = .push p → j.form = .pop p → s.bus = .flatRam →
    s.f &&& 0x0F = 0 → ∃ t u, exec i s = .next t ∧ exec j t = .next u ∧ u.pair p = s.pair p ∧ u.sp = s.sp) ∧
  (∀ (nn : Word) (s : State), s.bus = .flatRam →
    ∃ t u, exec (.call_nn nn) s = .next t ∧ t.pc = nn ∧ exec .ret t = .next u ∧ u.pc = s.pc ∧ u.sp = s.sp)

/-! ### 8-bit arithmetic and logic -/

/-- ADD A,x and ADC A,x (R191, R193, R194), 18 rows, every source of R190. -/
def Obligations.AddAdcResultAndFlags : Prop :=
  ∀ (i : Instr) (op : AluOp) (x : Source8) (s : State), i.form = .alu op x → op = .add ∨ op = .adc →
    s.busMayFault = false →
    ∃ (t : State) (cin : Nat), exec i s = .next t ∧ cin = (if op = .adc ∧ s.flag .c = true then 1 else 0) ∧
      t.a.toNat = (s.a.toNat + (s.sourceValue x).toNat + cin) % 256 ∧
      t.flag .z = decide (t.a.toNat = 0) ∧ t.flag .n = false ∧
      t.flag .h = decide (s.a.toNat % 16 + (s.sourceValue x).toNat % 16 + cin > 0x0F) ∧
      t.flag .c = decide (s.a.toNat + (s.sourceValue x).toNat + cin > 0xFF) ∧
      t.trace = s.trace ++ s.sourceTicks x ∧ Frame [.a, .f] [] s t

/-- SUB A,x, SBC A,x and CP A,x (R192, R195, R196, R200), 27 rows, every source of R190; CP writes no A. -/
def Obligations.SubSbcCpResultAndFlags : Prop :=
  ∀ (i : Instr) (op : AluOp) (x : Source8) (s : State), i.form = .alu op x → op = .sub ∨ op = .sbc ∨ op = .cp →
    s.busMayFault = false →
    ∃ (t : State) (cin : Nat) (res : Int), exec i s = .next t ∧
      cin = (if op = .sbc ∧ s.flag .c = true then 1 else 0) ∧
      res = ((s.a.toNat : Int) - (s.sourceValue x).toNat - cin) % 256 ∧
      (op ≠ .cp → (t.a.toNat : Int) = res) ∧ (op = .cp → t.a = s.a) ∧
      t.flag .z = decide (res = 0) ∧ t.flag .n = true ∧
      t.flag .h = decide ((s.sourceValue x).toNat % 16 + cin > s.a.toNat % 16) ∧
      t.flag .c = decide ((s.sourceValue x).toNat + cin > s.a.toNat) ∧
      t.trace = s.trace ++ s.sourceTicks x ∧ Frame [.a, .f] [] s t

/-- AND A,x, XOR A,x and OR A,x (R197, R198, R199), 27 rows, every source of R190. -/
def Obligations.LogicResultAndFlags : Prop :=
  ∀ (i : Instr) (op : AluOp) (x : Source8) (s : State), i.form = .alu op x → op = .and ∨ op = .xor ∨ op = .or →
    s.busMayFault = false →
    ∃ t, exec i s = .next t ∧
      (op = .and → t.a = s.a &&& s.sourceValue x) ∧ (op = .xor → t.a = s.a ^^^ s.sourceValue x) ∧
      (op = .or → t.a = s.a ||| s.sourceValue x) ∧
      t.flag .z = decide (t.a.toNat = 0) ∧ t.flag .n = false ∧ t.flag .h = decide (op = .and) ∧ t.flag .c = false ∧
      t.trace = s.trace ++ s.sourceTicks x ∧ Frame [.a, .f] [] s t

/-- INC r (R201) and DEC r (R203), 14 rows: C preserved. -/
def Obligations.IncDecRegister : Prop :=
  (∀ (i : Instr) (r : Reg8) (s : State), i.form = .incR r →
    ∃ t, exec i s = .next t ∧ (t.reg8 r).toNat = ((s.reg8 r).toNat + 1) % 256 ∧
      t.flag .z = decide ((t.reg8 r).toNat = 0) ∧ t.flag .n = false ∧
      t.flag .h = decide ((t.reg8 r).toNat % 16 = 0) ∧ t.flag .c = s.flag .c ∧
      t.trace = s.trace ∧ Frame [regOf r, .f] [] s t) ∧
  (∀ (i : Instr) (r : Reg8) (s : State), i.form = .decR r →
    ∃ t, exec i s = .next t ∧ (t.reg8 r).toNat = ((s.reg8 r).toNat + 255) % 256 ∧
      t.flag .z = decide ((t.reg8 r).toNat = 0) ∧ t.flag .n = true ∧
      t.flag .h = decide ((t.reg8 r).toNat % 16 = 15) ∧ t.flag .c = s.flag .c ∧
      t.trace = s.trace ∧ Frame [regOf r, .f] [] s t)

/-- INC (HL) (R202) and DEC (HL) (R204): one read and one write at HL, C preserved. -/
def Obligations.IncDecMemory : Prop :=
  ∀ s : State, s.busMayFault = false →
    (∃ (t : State) (res : Byte), exec .inc_atHL s = .next t ∧ res.toNat = ((s.busValue s.hl).toNat + 1) % 256 ∧
      t.flag .z = decide (res.toNat = 0) ∧ t.flag .n = false ∧ t.flag .h = decide (res.toNat % 16 = 0) ∧
      t.flag .c = s.flag .c ∧ t.trace = s.trace ++ [.read s.hl (s.busValue s.hl), .write s.hl res] ∧
      HoldsByte s.hl res s t ∧ Frame [.f] [s.hl] s t) ∧
    (∃ (t : State) (res : Byte), exec .dec_atHL s = .next t ∧ res.toNat = ((s.busValue s.hl).toNat + 255) % 256 ∧
      t.flag .z = decide (res.toNat = 0) ∧ t.flag .n = true ∧ t.flag .h = decide (res.toNat % 16 = 15) ∧
      t.flag .c = s.flag .c ∧ t.trace = s.trace ++ [.read s.hl (s.busValue s.hl), .write s.hl res] ∧
      HoldsByte s.hl res s t ∧ Frame [.f] [s.hl] s t)

/-! ### 16-bit arithmetic -/

/-- INC rr (R220) and DEC rr (R221), 8 rows: modulo 2^16, one internal tick, no flag. -/
def Obligations.IncDecPair : Prop :=
  (∀ (i : Instr) (rr : Reg16) (s : State), i.form = .incRR rr →
    ∃ t, exec i s = .next t ∧ (t.reg16 rr).toNat = ((s.reg16 rr).toNat + 1) % 65536 ∧
      t.trace = s.trace ++ [.internal] ∧ Frame (regsOfPair rr) [] s t) ∧
  (∀ (i : Instr) (rr : Reg16) (s : State), i.form = .decRR rr →
    ∃ t, exec i s = .next t ∧ (t.reg16 rr).toNat = ((s.reg16 rr).toNat + 65535) % 65536 ∧
      t.trace = s.trace ++ [.internal] ∧ Frame (regsOfPair rr) [] s t)

/-- ADD HL,rr (R222), 4 rows: H the carry out of bit 11, C out of bit 15, Z preserved. -/
def Obligations.AddHLPairResultAndFlags : Prop :=
  ∀ (i : Instr) (rr : Reg16) (s : State), i.form = .addHLRR rr →
    ∃ t, exec i s = .next t ∧ t.hl.toNat = (s.hl.toNat + (s.reg16 rr).toNat) % 65536 ∧
      t.flag .z = s.flag .z ∧ t.flag .n = false ∧
      t.flag .h = decide (s.hl.toNat % 4096 + (s.reg16 rr).toNat % 4096 > 0x0FFF) ∧
      t.flag .c = decide (s.hl.toNat + (s.reg16 rr).toNat > 0xFFFF) ∧
      t.trace = s.trace ++ [.internal] ∧ Frame [.h, .l, .f] [] s t

/-! ### Rotates, shifts, bits -/

/-- RLCA, RRCA, RLA, RRA (R230 to R233): "All produce Z=0, N=0, H=0; C = ejected bit." -/
def Obligations.AccRotatesResultAndFlags : Prop :=
  ∀ (i : Instr) (op : AccRotOp) (s : State), i.form = .rotA op →
    ∃ (t : State) (v cin : Nat), exec i s = .next t ∧ v = s.a.toNat ∧ cin = (if s.flag .c = true then 1 else 0) ∧
      (op = .rlca → t.a.toNat = (2 * v + v / 128) % 256 ∧ t.flag .c = decide (v / 128 = 1)) ∧
      (op = .rrca → t.a.toNat = v / 2 + 128 * (v % 2) ∧ t.flag .c = decide (v % 2 = 1)) ∧
      (op = .rla → t.a.toNat = (2 * v + cin) % 256 ∧ t.flag .c = decide (v / 128 = 1)) ∧
      (op = .rra → t.a.toNat = v / 2 + 128 * cin ∧ t.flag .c = decide (v % 2 = 1)) ∧
      t.flag .z = false ∧ t.flag .n = false ∧ t.flag .h = false ∧ t.trace = s.trace ∧ Frame [.a, .f] [] s t

/-- RLC, RRC, RL, RR, SLA, SRA, SWAP, SRL of a register or of (HL) (R234 to R242), 64 rows. That Z is computed and N and
H cleared by SLA, SRA and SRL is from the spec's general knowledge (93 K10; log entry 10). -/
def Obligations.CbRotatesResultAndFlags : Prop :=
  ∀ (i : Instr) (op : RotOp) (x : Target8) (s : State), i.form = .rot op x → s.busMayFault = false →
    ∃ (t : State) (v cin : Nat) (res : Byte), exec i s = .next t ∧ v = (s.targetValue x).toNat ∧
      cin = (if s.flag .c = true then 1 else 0) ∧
      (op = .rlc → res.toNat = (2 * v + v / 128) % 256 ∧ t.flag .c = decide (v / 128 = 1)) ∧
      (op = .rrc → res.toNat = v / 2 + 128 * (v % 2) ∧ t.flag .c = decide (v % 2 = 1)) ∧
      (op = .rl → res.toNat = (2 * v + cin) % 256 ∧ t.flag .c = decide (v / 128 = 1)) ∧
      (op = .rr → res.toNat = v / 2 + 128 * cin ∧ t.flag .c = decide (v % 2 = 1)) ∧
      (op = .sla → res.toNat = 2 * v % 256 ∧ t.flag .c = decide (v / 128 = 1)) ∧
      (op = .sra → res.toNat = v / 2 + 128 * (v / 128) ∧ t.flag .c = decide (v % 2 = 1)) ∧
      (op = .swap → res.toNat = 16 * (v % 16) + v / 16 ∧ t.flag .c = false) ∧
      (op = .srl → res.toNat = v / 2 ∧ t.flag .c = decide (v % 2 = 1)) ∧
      t.flag .z = decide (res.toNat = 0) ∧ t.flag .n = false ∧ t.flag .h = false ∧
      WrittenBack x res s t ∧ Frame (.f :: regsOfTarget x) (storesOfTarget x s) s t

/-- BIT b,r and BIT b,(HL) (R243), 64 rows: Z from the tested bit, C preserved, "the target is never written". -/
def Obligations.BitTestsAndWritesNothing : Prop :=
  ∀ (i : Instr) (n : Fin 8) (x : Target8) (s : State), i.form = .bit n x → s.busMayFault = false →
    ∃ t, exec i s = .next t ∧ t.flag .z = decide ((s.targetValue x).toNat / 2 ^ n.val % 2 = 0) ∧
      t.flag .n = false ∧ t.flag .h = true ∧ t.flag .c = s.flag .c ∧
      t.trace = s.trace ++ s.targetTicks x ∧ Frame [.f] [] s t

/-- RES b and SET b of a register or of (HL) (R244, R245), 128 rows: one bit cleared or set, no flag. -/
def Obligations.ResSetChangeOneBit : Prop :=
  (∀ (i : Instr) (n : Fin 8) (x : Target8) (s : State), i.form = .res n x → s.busMayFault = false →
    ∃ (t : State) (res : Byte), exec i s = .next t ∧
      (∀ k : Nat, res.getLsbD k = if k = n.val then false else (s.targetValue x).getLsbD k) ∧
      WrittenBack x res s t ∧ Frame (regsOfTarget x) (storesOfTarget x s) s t) ∧
  (∀ (i : Instr) (n : Fin 8) (x : Target8) (s : State), i.form = .set n x → s.busMayFault = false →
    ∃ (t : State) (res : Byte), exec i s = .next t ∧
      (∀ k : Nat, res.getLsbD k = if k = n.val then true else (s.targetValue x).getLsbD k) ∧
      WrittenBack x res s t ∧ Frame (regsOfTarget x) (storesOfTarget x s) s t)

/-! ### Control flow -/

/-- JR e, JR cc,e, JP nn, JP cc,nn, JP HL (R261 to R265), 11 rows, from PC after the instruction; the meaning of the four
condition names is from the spec's general knowledge (R260, 93 K11; log entry 9), the wrap its decision D4. -/
def Obligations.JumpsSetPC : Prop :=
  (∀ (s : State), s.cond .nz = !s.flag .z ∧ s.cond .z = s.flag .z ∧ s.cond .nc = !s.flag .c ∧ s.cond .c = s.flag .c) ∧
  (∀ (e : Byte) (s : State), ∃ t, exec (.jr_e e) s = .next t ∧
    (t.pc.toNat : Int) = ((s.pc.toNat : Int) + e.toInt) % 65536 ∧ t.trace = s.trace ++ [.internal] ∧
    Frame [.pc] [] s t) ∧
  (∀ (i : Instr) (cc : Cond) (e : Byte) (s : State), i.form = .jrCc cc e →
    (s.cond cc = true → ∃ t, exec i s = .next t ∧ (t.pc.toNat : Int) = ((s.pc.toNat : Int) + e.toInt) % 65536 ∧
      t.trace = s.trace ++ [.internal] ∧ Frame [.pc] [] s t) ∧
    (s.cond cc = false → exec i s = .next s)) ∧
  (∀ (nn : Word) (s : State), ∃ t, exec (.jp_nn nn) s = .next t ∧ t.pc = nn ∧ t.trace = s.trace ++ [.internal] ∧
    Frame [.pc] [] s t) ∧
  (∀ (i : Instr) (cc : Cond) (nn : Word) (s : State), i.form = .jpCc cc nn →
    (s.cond cc = true → ∃ t, exec i s = .next t ∧ t.pc = nn ∧ t.trace = s.trace ++ [.internal] ∧ Frame [.pc] [] s t) ∧
    (s.cond cc = false → exec i s = .next s)) ∧
  (∀ s : State, ∃ t, exec .jp_hl s = .next t ∧ t.pc = s.hl ∧ t.trace = s.trace ∧ Frame [.pc] [] s t)

/-- CALL nn, CALL cc,nn, RST t (R266, R267, R271), 13 rows: one internal tick, the address of the next instruction pushed,
PC at the target. The conditions are the general knowledge of log entry 9, the wrap of SP the spec's decision D4, and
t = 8 y general knowledge too (R106). -/
def Obligations.CallsPushReturnAddress : Prop :=
  (∀ (nn : Word) (s : State), s.busMayFault = false → ∃ t, exec (.call_nn nn) s = .next t ∧ t.pc = nn ∧
    ReturnAddressPushed s t ∧ Frame [.sp, .pc] [s.sp - 1, s.sp - 2] s t) ∧
  (∀ (i : Instr) (cc : Cond) (nn : Word) (s : State), i.form = .callCc cc nn →
    (s.cond cc = true → s.busMayFault = false → ∃ t, exec i s = .next t ∧ t.pc = nn ∧
      ReturnAddressPushed s t ∧ Frame [.sp, .pc] [s.sp - 1, s.sp - 2] s t) ∧
    (s.cond cc = false → exec i s = .next s)) ∧
  (∀ (i : Instr) (y : Fin 8) (s : State), i.form = .rst y → s.busMayFault = false →
    ∃ t, exec i s = .next t ∧ t.pc.toNat = 8 * y.val ∧
      ReturnAddressPushed s t ∧ Frame [.sp, .pc] [s.sp - 1, s.sp - 2] s t)

/-- RET, RET cc, RETI (R268, R269, R270), 6 rows: RET cc's first internal tick comes before its test. The
conditions are the general knowledge of log entry 9, the wrap of SP the spec's decision D4. -/
def Obligations.ReturnsPopPC : Prop :=
  (∀ (i : Instr) (s : State), i.form = .ret ∨ i.form = .reti → s.busMayFault = false →
    ∃ t, exec i s = .next t ∧ ReturnAddressPopped s t ∧ Frame [.sp, .pc] [] s t) ∧
  (∀ (i : Instr) (cc : Cond) (s : State), i.form = .retCc cc →
    (s.cond cc = true → s.busMayFault = false →
      ∃ t, exec i s = .next t ∧ ReturnAddressPopped s.internal t ∧ Frame [.sp, .pc] [] s t) ∧
    (s.cond cc = false → ∃ t, exec i s = .next t ∧ t.trace = s.trace ++ [.internal] ∧ Frame [] [] s t))

/-! ### Miscellaneous -/

/-- DAA (R281): both tests of the addition case look at the A it started with (the spec's decision D11; log entry 11). -/
def Obligations.DaaAdjustsDecimal : Prop :=
  ∀ s : State, ∃ (t : State) (low high : Nat), exec .daa s = .next t ∧
    low = (if s.flag .h = true ∨ s.flag .n = false ∧ s.a.toNat % 16 > 9 then 0x06 else 0) ∧
    high = (if s.flag .c = true ∨ s.flag .n = false ∧ s.a.toNat > 0x99 then 0x60 else 0) ∧
    (s.flag .n = false → t.a.toNat = (s.a.toNat + low + high) % 256) ∧
    (s.flag .n = true → t.a.toNat = (s.a.toNat + 256 - low - high) % 256) ∧
    t.flag .z = decide (t.a.toNat = 0) ∧ t.flag .n = s.flag .n ∧ t.flag .h = false ∧
    t.flag .c = decide (high = 0x60) ∧ t.trace = s.trace ∧ Frame [.a, .f] [] s t

/-- NOP, DI, EI (R280, R285, R286): nothing but the fetch. HALT, STOP (R287, R288): two internal ticks (STOP's are the
spec's decision D12). CPL, SCF, CCF (R282, R283, R284). -/
def Obligations.MiscellaneousEffects : Prop :=
  ∀ s : State,
    exec .nop s = .next s ∧ exec .di s = .next s ∧ exec .ei s = .next s ∧
    (∃ t, exec .halt s = .next t ∧ t.trace = s.trace ++ [.internal, .internal] ∧ t.mem = s.mem ∧ Frame [] [] s t) ∧
    (∃ t, exec .stop s = .next t ∧ t.trace = s.trace ++ [.internal, .internal] ∧ t.mem = s.mem ∧ Frame [] [] s t) ∧
    (∃ t, exec .cpl s = .next t ∧ t.a.toNat = 255 - s.a.toNat ∧ t.flag .z = s.flag .z ∧ t.flag .n = true ∧
      t.flag .h = true ∧ t.flag .c = s.flag .c ∧ t.trace = s.trace ∧ Frame [.a, .f] [] s t) ∧
    (∃ t, exec .scf s = .next t ∧ t.flag .z = s.flag .z ∧ t.flag .n = false ∧ t.flag .h = false ∧
      t.flag .c = true ∧ t.trace = s.trace ∧ Frame [.f] [] s t) ∧
    (∃ t, exec .ccf s = .next t ∧ t.flag .z = s.flag .z ∧ t.flag .n = false ∧ t.flag .h = false ∧
      t.flag .c = (!s.flag .c) ∧ t.trace = s.trace ∧ Frame [.f] [] s t)
end

