-- ==== Sys2Proof/Laws/Decode.lean ====
section
/-! SUPPORT. The byte-order and sign helpers (spec/00_scope.md R7). -/

namespace Sys2Proof

@[simp] theorem toNat_hiByte (v : Word) : (hiByte v).toNat = v.toNat / 256 := by
  have := v.isLt
  simp [hiByte, Nat.shiftRight_eq_div_pow]; omega

@[simp] theorem toNat_loByte (v : Word) : (loByte v).toNat = v.toNat % 256 := by
  simp [loByte]

@[simp] theorem toNat_wordOf (hi lo : Byte) : (wordOf hi lo).toNat = 256 * hi.toNat + lo.toNat := by
  have h1 := hi.isLt
  have h2 := lo.isLt
  have e : (wordOf hi lo).toNat = (hi.toNat <<< 8) ||| lo.toNat :=
    BitVec.toNat_append ..
  rw [e, ← Nat.shiftLeft_add_eq_or_of_lt h2, Nat.shiftLeft_eq]; omega

@[simp] theorem wordOf_hiByte_loByte (v : Word) : wordOf (hiByte v) (loByte v) = v := by
  apply BitVec.eq_of_toNat_eq; simp; omega

@[simp] theorem hiByte_wordOf (hi lo : Byte) : hiByte (wordOf hi lo) = hi := by
  have h2 := lo.isLt
  apply BitVec.eq_of_toNat_eq; simp; omega

@[simp] theorem loByte_wordOf (hi lo : Byte) : loByte (wordOf hi lo) = lo := by
  have h2 := lo.isLt
  apply BitVec.eq_of_toNat_eq; simp; omega

/-- `sext_16(e) = e` if `e < 0x80`, else `0xFF00 | e` (spec/30_encoding.md R105). -/
theorem toNat_sext16 (e : Byte) : (sext16 e).toNat = if e.toNat < 128 then e.toNat else 65280 + e.toNat := by
  revert e; decide

end Sys2Proof
end

