-- ==== Sys2Proof/Laws/Memory.lean ====
section
/-! SUPPORT. The laws of the flat RAM: a read after a write, and that every memory operation keeps the canonical form. -/

namespace Sys2Proof.Machine

@[simp] theorem Memory.read_nil (x : Nat) : Memory.read [] x = Config.initialByte := rfl

theorem Memory.read_cons (k : Nat) (v : Byte) (m : Memory) (x : Nat) :
    Memory.read ((k, v) :: m) x = if k = x then v else Memory.read m x := rfl

theorem Memory.read_erase_self (m : Memory) (x : Nat) : Memory.read (Memory.erase m x) x = Config.initialByte := by
  induction m with
  | nil => rfl
  | cons cell m ih =>
    obtain ⟨k, v⟩ := cell
    by_cases h : k = x
    · simpa [Memory.erase, h] using ih
    · simpa [Memory.erase, h, Memory.read_cons] using ih

theorem Memory.read_erase_other (m : Memory) {x y : Nat} (hxy : x ≠ y) :
    Memory.read (Memory.erase m x) y = Memory.read m y := by
  induction m with
  | nil => rfl
  | cons cell m ih =>
    obtain ⟨k, v⟩ := cell
    by_cases h : k = x
    · have hk : ¬ k = y := by omega
      simpa [Memory.erase, h, Memory.read_cons, hxy] using ih
    · simpa [Memory.erase, h, Memory.read_cons] using by rw [← ih]; rfl

theorem Memory.read_insert (m : Memory) (x : Nat) (v : Byte) (y : Nat) :
    Memory.read (Memory.insert (Memory.erase m x) x v) y = if x = y then v else Memory.read m y := by
  have key : ∀ l : Memory, (∀ cell ∈ l, cell.1 ≠ x) →
      Memory.read (Memory.insert l x v) y = if x = y then v else Memory.read l y := by
    intro l
    induction l with
    | nil => intro _; rfl
    | cons cell l ih =>
      obtain ⟨k, w⟩ := cell
      intro hl
      have hk : k ≠ x := hl (k, w) (by simp)
      have ih' := ih (fun cell hc => hl cell (by simp [hc]))
      by_cases hlt : x < k
      · simp [Memory.insert, hlt, Memory.read_cons]
      · by_cases hky : k = y
        · subst hky
          simp [Memory.insert, hlt, Memory.read_cons, Ne.symm hk]
        · simp [Memory.insert, hlt, Memory.read_cons, hky, ih']
  rw [key _ (by intro cell hc; simpa using (List.mem_filter.mp hc).2)]
  by_cases hxy : x = y
  · simp [hxy]
  · simp [hxy, Memory.read_erase_other m hxy]

/-- A read after a write: the byte written there, every other byte as before. -/
theorem Memory.read_write (m : Memory) (x : Nat) (v : Byte) (y : Nat) :
    Memory.read (Memory.write m x v) y = if x = y then v else Memory.read m y := by
  unfold Memory.write
  by_cases hv : v = Config.initialByte
  · by_cases hxy : x = y
    · subst hxy; simp [hv, Memory.read_erase_self]
    · simp [hv, hxy, Memory.read_erase_other m hxy]
  · simp only [hv, if_false]; exact Memory.read_insert m x v y

theorem Memory.wf_erase {m : Memory} (h : Memory.wf m) (x : Nat) : Memory.wf (Memory.erase m x) :=
  ⟨h.1.filter _, fun cell hc => h.2 cell (List.mem_filter.mp hc).1⟩

theorem Memory.mem_insert {m : Memory} {x : Nat} {v : Byte} {cell : Host.Cell} (h : cell ∈ Memory.insert m x v) :
    cell = (x, v) ∨ cell ∈ m := by
  induction m with
  | nil => simpa [Memory.insert] using h
  | cons c m ih =>
    obtain ⟨k, w⟩ := c
    by_cases hlt : x < k
    · simpa [Memory.insert, hlt] using h
    · simp only [Memory.insert, hlt, if_false, List.mem_cons] at h ⊢
      rcases h with h | h
      · exact .inr (.inl h)
      · exact (ih h).imp_right .inr

theorem Memory.pairwise_insert {m : Memory} {x : Nat} {v : Byte}
    (h : List.Pairwise (fun p q => p.1 < q.1) m) (hx : ∀ cell ∈ m, cell.1 ≠ x) :
    List.Pairwise (fun p q => p.1 < q.1) (Memory.insert m x v) := by
  induction m with
  | nil => simp [Memory.insert]
  | cons c m ih =>
    obtain ⟨k, w⟩ := c
    rw [List.pairwise_cons] at h
    have hk : k ≠ x := hx (k, w) (by simp)
    by_cases hlt : x < k
    · simp only [Memory.insert, hlt, if_true, List.pairwise_cons]
      refine ⟨fun cell hc => ?_, h⟩
      rcases List.mem_cons.mp hc with rfl | hc
      · exact hlt
      · exact Nat.lt_trans hlt (h.1 cell hc)
    · simp only [Memory.insert, hlt, if_false, List.pairwise_cons]
      refine ⟨fun cell hc => ?_, ih h.2 (fun cell hc => hx cell (by simp [hc]))⟩
      rcases Memory.mem_insert hc with rfl | hc
      · change k < x; omega
      · exact h.1 cell hc

/-- A write within the address space keeps the canonical form. -/
theorem Memory.wf_write {m : Memory} (h : Memory.wf m) {x : Nat} (hx : x < 65536) (v : Byte) :
    Memory.wf (Memory.write m x v) := by
  unfold Memory.write
  by_cases hv : v = Config.initialByte
  · simpa [hv] using Memory.wf_erase h x
  · simp only [hv, if_false]
    have he := Memory.wf_erase h x
    refine ⟨Memory.pairwise_insert he.1 (fun cell hc => by simpa using (List.mem_filter.mp hc).2), ?_⟩
    intro cell hc
    rcases Memory.mem_insert hc with rfl | hc
    · exact ⟨hx, hv⟩
    · exact he.2 cell hc

/-- What the flat RAM is after a bus write keeps the canonical form. -/
theorem State.wf_memAfter {s : State} (h : Memory.wf s.mem) (addr : Word) (v : Byte) :
    Memory.wf (s.memAfter addr v) := by
  unfold State.memAfter
  split
  · exact Memory.wf_write h addr.isLt v
  · exact h

/-- A byte of memory after a bus write: the written byte on the flat RAM at that address, else as before. -/
theorem State.read_memAfter (s : State) (addr : Word) (v : Byte) (x : Nat) :
    Memory.read (s.memAfter addr v) x = if s.bus = .flatRam ∧ addr.toNat = x then v else Memory.read s.mem x := by
  unfold State.memAfter
  split <;> rename_i hb
  · simp [hb, Memory.read_write]
  · simp [hb]

/-- A byte of memory after a write that did not fault. -/
@[simp] theorem State.read_afterWrite (s : State) (addr : Word) (v : Byte) (x : Nat) :
    Memory.read (s.afterWrite addr v).mem x =
      if s.bus = .flatRam ∧ addr.toNat = x then v else Memory.read s.mem x :=
  State.read_memAfter s addr v x

theorem State.reset_mem_wf : Memory.wf State.reset.mem := by decide

end Sys2Proof.Machine
end

