-- ==== Sys2Proof/Laws/State.lean ====
section
/-! SUPPORT. One lemma per field and view per update of State, each true by rfl and a simp lemma, so that no proof
unfolds a record update. -/

namespace Sys2Proof.Machine

/-! ### setReg8, setReg16, setPair -/

@[simp] theorem State.setReg8_b (r : Reg8) (v : Byte) (s : State) : (s.setReg8 r v).b = if r = .b then v else s.b := by
  cases r <;> rfl
@[simp] theorem State.setReg8_c (r : Reg8) (v : Byte) (s : State) : (s.setReg8 r v).c = if r = .c then v else s.c := by
  cases r <;> rfl
@[simp] theorem State.setReg8_d (r : Reg8) (v : Byte) (s : State) : (s.setReg8 r v).d = if r = .d then v else s.d := by
  cases r <;> rfl
@[simp] theorem State.setReg8_e (r : Reg8) (v : Byte) (s : State) : (s.setReg8 r v).e = if r = .e then v else s.e := by
  cases r <;> rfl
@[simp] theorem State.setReg8_h (r : Reg8) (v : Byte) (s : State) : (s.setReg8 r v).h = if r = .h then v else s.h := by
  cases r <;> rfl
@[simp] theorem State.setReg8_l (r : Reg8) (v : Byte) (s : State) : (s.setReg8 r v).l = if r = .l then v else s.l := by
  cases r <;> rfl
@[simp] theorem State.setReg8_a (r : Reg8) (v : Byte) (s : State) : (s.setReg8 r v).a = if r = .a then v else s.a := by
  cases r <;> rfl
@[simp] theorem State.setReg8_f (r : Reg8) (v : Byte) (s : State) : (s.setReg8 r v).f = s.f := by cases r <;> rfl
@[simp] theorem State.setReg8_sp (r : Reg8) (v : Byte) (s : State) : (s.setReg8 r v).sp = s.sp := by cases r <;> rfl
@[simp] theorem State.setReg8_pc (r : Reg8) (v : Byte) (s : State) : (s.setReg8 r v).pc = s.pc := by cases r <;> rfl
@[simp] theorem State.setReg8_bus (r : Reg8) (v : Byte) (s : State) : (s.setReg8 r v).bus = s.bus := by cases r <;> rfl
@[simp] theorem State.setReg8_mem (r : Reg8) (v : Byte) (s : State) : (s.setReg8 r v).mem = s.mem := by cases r <;> rfl
@[simp] theorem State.setReg8_busLog (r : Reg8) (v : Byte) (s : State) : (s.setReg8 r v).busLog = s.busLog := by cases r <;> rfl
@[simp] theorem State.setReg8_lastAccess (r : Reg8) (v : Byte) (s : State) : (s.setReg8 r v).lastAccess = s.lastAccess := by cases r <;> rfl
@[simp] theorem State.setReg8_trace (r : Reg8) (v : Byte) (s : State) : (s.setReg8 r v).trace = s.trace := by cases r <;> rfl
@[simp] theorem State.setReg8_callback (r : Reg8) (v : Byte) (s : State) : (s.setReg8 r v).callback = s.callback := by cases r <;> rfl
@[simp] theorem State.setReg8_observed (r : Reg8) (v : Byte) (s : State) : (s.setReg8 r v).observed = s.observed := by cases r <;> rfl
@[simp] theorem State.setReg8_errors (r : Reg8) (v : Byte) (s : State) : (s.setReg8 r v).errors = s.errors := by cases r <;> rfl
@[simp] theorem State.setReg8_wasReset (r : Reg8) (v : Byte) (s : State) : (s.setReg8 r v).wasReset = s.wasReset := by cases r <;> rfl
@[simp] theorem State.setReg8_draws (r : Reg8) (v : Byte) (s : State) : (s.setReg8 r v).draws = s.draws := by cases r <;> rfl
@[simp] theorem State.reg8_setReg8 (r q : Reg8) (v : Byte) (s : State) :
    (s.setReg8 r v).reg8 q = if r = q then v else s.reg8 q := by
  cases r <;> cases q <;> rfl
@[simp] theorem State.flag_setReg8 (x : Flag) (r : Reg8) (v : Byte) (s : State) : (s.setReg8 r v).flag x = s.flag x := by
  cases r <;> rfl
@[simp] theorem State.setReg16_a (rr : Reg16) (v : Word) (s : State) : (s.setReg16 rr v).a = s.a := by cases rr <;> rfl
@[simp] theorem State.setReg16_f (rr : Reg16) (v : Word) (s : State) : (s.setReg16 rr v).f = s.f := by cases rr <;> rfl
@[simp] theorem State.setReg16_pc (rr : Reg16) (v : Word) (s : State) : (s.setReg16 rr v).pc = s.pc := by cases rr <;> rfl
@[simp] theorem State.setReg16_bus (rr : Reg16) (v : Word) (s : State) : (s.setReg16 rr v).bus = s.bus := by cases rr <;> rfl
@[simp] theorem State.setReg16_mem (rr : Reg16) (v : Word) (s : State) : (s.setReg16 rr v).mem = s.mem := by cases rr <;> rfl
@[simp] theorem State.setReg16_busLog (rr : Reg16) (v : Word) (s : State) : (s.setReg16 rr v).busLog = s.busLog := by cases rr <;> rfl
@[simp] theorem State.setReg16_lastAccess (rr : Reg16) (v : Word) (s : State) : (s.setReg16 rr v).lastAccess = s.lastAccess := by cases rr <;> rfl
@[simp] theorem State.setReg16_trace (rr : Reg16) (v : Word) (s : State) : (s.setReg16 rr v).trace = s.trace := by cases rr <;> rfl
@[simp] theorem State.setReg16_callback (rr : Reg16) (v : Word) (s : State) : (s.setReg16 rr v).callback = s.callback := by cases rr <;> rfl
@[simp] theorem State.setReg16_observed (rr : Reg16) (v : Word) (s : State) : (s.setReg16 rr v).observed = s.observed := by cases rr <;> rfl
@[simp] theorem State.setReg16_errors (rr : Reg16) (v : Word) (s : State) : (s.setReg16 rr v).errors = s.errors := by cases rr <;> rfl
@[simp] theorem State.setReg16_wasReset (rr : Reg16) (v : Word) (s : State) : (s.setReg16 rr v).wasReset = s.wasReset := by cases rr <;> rfl
@[simp] theorem State.setReg16_draws (rr : Reg16) (v : Word) (s : State) : (s.setReg16 rr v).draws = s.draws := by cases rr <;> rfl
@[simp] theorem State.setPair_sp (p : StackPair) (v : Word) (s : State) : (s.setPair p v).sp = s.sp := by cases p <;> rfl
@[simp] theorem State.setPair_pc (p : StackPair) (v : Word) (s : State) : (s.setPair p v).pc = s.pc := by cases p <;> rfl
@[simp] theorem State.setPair_bus (p : StackPair) (v : Word) (s : State) : (s.setPair p v).bus = s.bus := by cases p <;> rfl
@[simp] theorem State.setPair_mem (p : StackPair) (v : Word) (s : State) : (s.setPair p v).mem = s.mem := by cases p <;> rfl
@[simp] theorem State.setPair_busLog (p : StackPair) (v : Word) (s : State) : (s.setPair p v).busLog = s.busLog := by cases p <;> rfl
@[simp] theorem State.setPair_lastAccess (p : StackPair) (v : Word) (s : State) : (s.setPair p v).lastAccess = s.lastAccess := by cases p <;> rfl
@[simp] theorem State.setPair_trace (p : StackPair) (v : Word) (s : State) : (s.setPair p v).trace = s.trace := by cases p <;> rfl
@[simp] theorem State.setPair_callback (p : StackPair) (v : Word) (s : State) : (s.setPair p v).callback = s.callback := by cases p <;> rfl
@[simp] theorem State.setPair_observed (p : StackPair) (v : Word) (s : State) : (s.setPair p v).observed = s.observed := by cases p <;> rfl
@[simp] theorem State.setPair_errors (p : StackPair) (v : Word) (s : State) : (s.setPair p v).errors = s.errors := by cases p <;> rfl
@[simp] theorem State.setPair_wasReset (p : StackPair) (v : Word) (s : State) : (s.setPair p v).wasReset = s.wasReset := by cases p <;> rfl
@[simp] theorem State.setPair_draws (p : StackPair) (v : Word) (s : State) : (s.setPair p v).draws = s.draws := by cases p <;> rfl

/-! ### setF -/

@[simp] theorem State.setF_a (v : Byte) (s : State) : (s.setF v).a = s.a := rfl
@[simp] theorem State.setF_f (v : Byte) (s : State) : (s.setF v).f = v &&& 0xF0 := rfl
@[simp] theorem State.setF_b (v : Byte) (s : State) : (s.setF v).b = s.b := rfl
@[simp] theorem State.setF_c (v : Byte) (s : State) : (s.setF v).c = s.c := rfl
@[simp] theorem State.setF_d (v : Byte) (s : State) : (s.setF v).d = s.d := rfl
@[simp] theorem State.setF_e (v : Byte) (s : State) : (s.setF v).e = s.e := rfl
@[simp] theorem State.setF_h (v : Byte) (s : State) : (s.setF v).h = s.h := rfl
@[simp] theorem State.setF_l (v : Byte) (s : State) : (s.setF v).l = s.l := rfl
@[simp] theorem State.setF_sp (v : Byte) (s : State) : (s.setF v).sp = s.sp := rfl
@[simp] theorem State.setF_pc (v : Byte) (s : State) : (s.setF v).pc = s.pc := rfl
@[simp] theorem State.setF_bus (v : Byte) (s : State) : (s.setF v).bus = s.bus := rfl
@[simp] theorem State.setF_mem (v : Byte) (s : State) : (s.setF v).mem = s.mem := rfl
@[simp] theorem State.setF_busLog (v : Byte) (s : State) : (s.setF v).busLog = s.busLog := rfl
@[simp] theorem State.setF_lastAccess (v : Byte) (s : State) : (s.setF v).lastAccess = s.lastAccess := rfl
@[simp] theorem State.setF_trace (v : Byte) (s : State) : (s.setF v).trace = s.trace := rfl
@[simp] theorem State.setF_callback (v : Byte) (s : State) : (s.setF v).callback = s.callback := rfl
@[simp] theorem State.setF_observed (v : Byte) (s : State) : (s.setF v).observed = s.observed := rfl
@[simp] theorem State.setF_errors (v : Byte) (s : State) : (s.setF v).errors = s.errors := rfl
@[simp] theorem State.setF_wasReset (v : Byte) (s : State) : (s.setF v).wasReset = s.wasReset := rfl
@[simp] theorem State.setF_draws (v : Byte) (s : State) : (s.setF v).draws = s.draws := rfl
@[simp] theorem State.reg8_setF (r : Reg8) (v : Byte) (s : State) : (s.setF v).reg8 r = s.reg8 r := rfl
@[simp] theorem State.reg16_setF (rr : Reg16) (v : Byte) (s : State) : (s.setF v).reg16 rr = s.reg16 rr := rfl
@[simp] theorem State.bc_setF (v : Byte) (s : State) : (s.setF v).bc = s.bc := rfl
@[simp] theorem State.de_setF (v : Byte) (s : State) : (s.setF v).de = s.de := rfl
@[simp] theorem State.hl_setF (v : Byte) (s : State) : (s.setF v).hl = s.hl := rfl
@[simp] theorem State.busMayFault_setF (v : Byte) (s : State) : (s.setF v).busMayFault = s.busMayFault := rfl
@[simp] theorem State.busValue_setF (y : Word) (v : Byte) (s : State) : (s.setF v).busValue y = s.busValue y := rfl

/-! ### setSP -/

@[simp] theorem State.setSP_a (v : Word) (s : State) : (s.setSP v).a = s.a := rfl
@[simp] theorem State.setSP_f (v : Word) (s : State) : (s.setSP v).f = s.f := rfl
@[simp] theorem State.setSP_b (v : Word) (s : State) : (s.setSP v).b = s.b := rfl
@[simp] theorem State.setSP_c (v : Word) (s : State) : (s.setSP v).c = s.c := rfl
@[simp] theorem State.setSP_d (v : Word) (s : State) : (s.setSP v).d = s.d := rfl
@[simp] theorem State.setSP_e (v : Word) (s : State) : (s.setSP v).e = s.e := rfl
@[simp] theorem State.setSP_h (v : Word) (s : State) : (s.setSP v).h = s.h := rfl
@[simp] theorem State.setSP_l (v : Word) (s : State) : (s.setSP v).l = s.l := rfl
@[simp] theorem State.setSP_sp (v : Word) (s : State) : (s.setSP v).sp = v := rfl
@[simp] theorem State.setSP_pc (v : Word) (s : State) : (s.setSP v).pc = s.pc := rfl
@[simp] theorem State.setSP_bus (v : Word) (s : State) : (s.setSP v).bus = s.bus := rfl
@[simp] theorem State.setSP_mem (v : Word) (s : State) : (s.setSP v).mem = s.mem := rfl
@[simp] theorem State.setSP_busLog (v : Word) (s : State) : (s.setSP v).busLog = s.busLog := rfl
@[simp] theorem State.setSP_lastAccess (v : Word) (s : State) : (s.setSP v).lastAccess = s.lastAccess := rfl
@[simp] theorem State.setSP_trace (v : Word) (s : State) : (s.setSP v).trace = s.trace := rfl
@[simp] theorem State.setSP_callback (v : Word) (s : State) : (s.setSP v).callback = s.callback := rfl
@[simp] theorem State.setSP_observed (v : Word) (s : State) : (s.setSP v).observed = s.observed := rfl
@[simp] theorem State.setSP_errors (v : Word) (s : State) : (s.setSP v).errors = s.errors := rfl
@[simp] theorem State.setSP_wasReset (v : Word) (s : State) : (s.setSP v).wasReset = s.wasReset := rfl
@[simp] theorem State.setSP_draws (v : Word) (s : State) : (s.setSP v).draws = s.draws := rfl
@[simp] theorem State.reg8_setSP (r : Reg8) (v : Word) (s : State) : (s.setSP v).reg8 r = s.reg8 r := rfl
@[simp] theorem State.pair_setSP (p : StackPair) (v : Word) (s : State) : (s.setSP v).pair p = s.pair p := rfl
@[simp] theorem State.bc_setSP (v : Word) (s : State) : (s.setSP v).bc = s.bc := rfl
@[simp] theorem State.de_setSP (v : Word) (s : State) : (s.setSP v).de = s.de := rfl
@[simp] theorem State.hl_setSP (v : Word) (s : State) : (s.setSP v).hl = s.hl := rfl
@[simp] theorem State.af_setSP (v : Word) (s : State) : (s.setSP v).af = s.af := rfl
@[simp] theorem State.flag_setSP (x : Flag) (v : Word) (s : State) : (s.setSP v).flag x = s.flag x := rfl
@[simp] theorem State.cond_setSP (cc : Cond) (v : Word) (s : State) : (s.setSP v).cond cc = s.cond cc := rfl
@[simp] theorem State.busMayFault_setSP (v : Word) (s : State) : (s.setSP v).busMayFault = s.busMayFault := rfl
@[simp] theorem State.busValue_setSP (y : Word) (v : Word) (s : State) : (s.setSP v).busValue y = s.busValue y := rfl

/-! ### setPC -/

@[simp] theorem State.setPC_a (v : Word) (s : State) : (s.setPC v).a = s.a := rfl
@[simp] theorem State.setPC_f (v : Word) (s : State) : (s.setPC v).f = s.f := rfl
@[simp] theorem State.setPC_b (v : Word) (s : State) : (s.setPC v).b = s.b := rfl
@[simp] theorem State.setPC_c (v : Word) (s : State) : (s.setPC v).c = s.c := rfl
@[simp] theorem State.setPC_d (v : Word) (s : State) : (s.setPC v).d = s.d := rfl
@[simp] theorem State.setPC_e (v : Word) (s : State) : (s.setPC v).e = s.e := rfl
@[simp] theorem State.setPC_h (v : Word) (s : State) : (s.setPC v).h = s.h := rfl
@[simp] theorem State.setPC_l (v : Word) (s : State) : (s.setPC v).l = s.l := rfl
@[simp] theorem State.setPC_sp (v : Word) (s : State) : (s.setPC v).sp = s.sp := rfl
@[simp] theorem State.setPC_pc (v : Word) (s : State) : (s.setPC v).pc = v := rfl
@[simp] theorem State.setPC_bus (v : Word) (s : State) : (s.setPC v).bus = s.bus := rfl
@[simp] theorem State.setPC_mem (v : Word) (s : State) : (s.setPC v).mem = s.mem := rfl
@[simp] theorem State.setPC_busLog (v : Word) (s : State) : (s.setPC v).busLog = s.busLog := rfl
@[simp] theorem State.setPC_lastAccess (v : Word) (s : State) : (s.setPC v).lastAccess = s.lastAccess := rfl
@[simp] theorem State.setPC_trace (v : Word) (s : State) : (s.setPC v).trace = s.trace := rfl
@[simp] theorem State.setPC_callback (v : Word) (s : State) : (s.setPC v).callback = s.callback := rfl
@[simp] theorem State.setPC_observed (v : Word) (s : State) : (s.setPC v).observed = s.observed := rfl
@[simp] theorem State.setPC_errors (v : Word) (s : State) : (s.setPC v).errors = s.errors := rfl
@[simp] theorem State.setPC_wasReset (v : Word) (s : State) : (s.setPC v).wasReset = s.wasReset := rfl
@[simp] theorem State.setPC_draws (v : Word) (s : State) : (s.setPC v).draws = s.draws := rfl
@[simp] theorem State.reg8_setPC (r : Reg8) (v : Word) (s : State) : (s.setPC v).reg8 r = s.reg8 r := rfl
@[simp] theorem State.reg16_setPC (rr : Reg16) (v : Word) (s : State) : (s.setPC v).reg16 rr = s.reg16 rr := rfl
@[simp] theorem State.pair_setPC (p : StackPair) (v : Word) (s : State) : (s.setPC v).pair p = s.pair p := rfl
@[simp] theorem State.bc_setPC (v : Word) (s : State) : (s.setPC v).bc = s.bc := rfl
@[simp] theorem State.de_setPC (v : Word) (s : State) : (s.setPC v).de = s.de := rfl
@[simp] theorem State.hl_setPC (v : Word) (s : State) : (s.setPC v).hl = s.hl := rfl
@[simp] theorem State.af_setPC (v : Word) (s : State) : (s.setPC v).af = s.af := rfl
@[simp] theorem State.flag_setPC (x : Flag) (v : Word) (s : State) : (s.setPC v).flag x = s.flag x := rfl
@[simp] theorem State.cond_setPC (cc : Cond) (v : Word) (s : State) : (s.setPC v).cond cc = s.cond cc := rfl
@[simp] theorem State.busMayFault_setPC (v : Word) (s : State) : (s.setPC v).busMayFault = s.busMayFault := rfl
@[simp] theorem State.busValue_setPC (y : Word) (v : Word) (s : State) : (s.setPC v).busValue y = s.busValue y := rfl

/-! ### setBC -/

@[simp] theorem State.setBC_a (v : Word) (s : State) : (s.setBC v).a = s.a := rfl
@[simp] theorem State.setBC_f (v : Word) (s : State) : (s.setBC v).f = s.f := rfl
@[simp] theorem State.setBC_b (v : Word) (s : State) : (s.setBC v).b = hiByte v := rfl
@[simp] theorem State.setBC_c (v : Word) (s : State) : (s.setBC v).c = loByte v := rfl
@[simp] theorem State.setBC_d (v : Word) (s : State) : (s.setBC v).d = s.d := rfl
@[simp] theorem State.setBC_e (v : Word) (s : State) : (s.setBC v).e = s.e := rfl
@[simp] theorem State.setBC_h (v : Word) (s : State) : (s.setBC v).h = s.h := rfl
@[simp] theorem State.setBC_l (v : Word) (s : State) : (s.setBC v).l = s.l := rfl
@[simp] theorem State.setBC_sp (v : Word) (s : State) : (s.setBC v).sp = s.sp := rfl
@[simp] theorem State.setBC_pc (v : Word) (s : State) : (s.setBC v).pc = s.pc := rfl
@[simp] theorem State.setBC_bus (v : Word) (s : State) : (s.setBC v).bus = s.bus := rfl
@[simp] theorem State.setBC_mem (v : Word) (s : State) : (s.setBC v).mem = s.mem := rfl
@[simp] theorem State.setBC_busLog (v : Word) (s : State) : (s.setBC v).busLog = s.busLog := rfl
@[simp] theorem State.setBC_lastAccess (v : Word) (s : State) : (s.setBC v).lastAccess = s.lastAccess := rfl
@[simp] theorem State.setBC_trace (v : Word) (s : State) : (s.setBC v).trace = s.trace := rfl
@[simp] theorem State.setBC_callback (v : Word) (s : State) : (s.setBC v).callback = s.callback := rfl
@[simp] theorem State.setBC_observed (v : Word) (s : State) : (s.setBC v).observed = s.observed := rfl
@[simp] theorem State.setBC_errors (v : Word) (s : State) : (s.setBC v).errors = s.errors := rfl
@[simp] theorem State.setBC_wasReset (v : Word) (s : State) : (s.setBC v).wasReset = s.wasReset := rfl
@[simp] theorem State.setBC_draws (v : Word) (s : State) : (s.setBC v).draws = s.draws := rfl
@[simp] theorem State.de_setBC (v : Word) (s : State) : (s.setBC v).de = s.de := rfl
@[simp] theorem State.hl_setBC (v : Word) (s : State) : (s.setBC v).hl = s.hl := rfl
@[simp] theorem State.af_setBC (v : Word) (s : State) : (s.setBC v).af = s.af := rfl
@[simp] theorem State.flag_setBC (x : Flag) (v : Word) (s : State) : (s.setBC v).flag x = s.flag x := rfl
@[simp] theorem State.cond_setBC (cc : Cond) (v : Word) (s : State) : (s.setBC v).cond cc = s.cond cc := rfl
@[simp] theorem State.busMayFault_setBC (v : Word) (s : State) : (s.setBC v).busMayFault = s.busMayFault := rfl
@[simp] theorem State.busValue_setBC (y : Word) (v : Word) (s : State) : (s.setBC v).busValue y = s.busValue y := rfl

/-! ### setDE -/

@[simp] theorem State.setDE_a (v : Word) (s : State) : (s.setDE v).a = s.a := rfl
@[simp] theorem State.setDE_f (v : Word) (s : State) : (s.setDE v).f = s.f := rfl
@[simp] theorem State.setDE_b (v : Word) (s : State) : (s.setDE v).b = s.b := rfl
@[simp] theorem State.setDE_c (v : Word) (s : State) : (s.setDE v).c = s.c := rfl
@[simp] theorem State.setDE_d (v : Word) (s : State) : (s.setDE v).d = hiByte v := rfl
@[simp] theorem State.setDE_e (v : Word) (s : State) : (s.setDE v).e = loByte v := rfl
@[simp] theorem State.setDE_h (v : Word) (s : State) : (s.setDE v).h = s.h := rfl
@[simp] theorem State.setDE_l (v : Word) (s : State) : (s.setDE v).l = s.l := rfl
@[simp] theorem State.setDE_sp (v : Word) (s : State) : (s.setDE v).sp = s.sp := rfl
@[simp] theorem State.setDE_pc (v : Word) (s : State) : (s.setDE v).pc = s.pc := rfl
@[simp] theorem State.setDE_bus (v : Word) (s : State) : (s.setDE v).bus = s.bus := rfl
@[simp] theorem State.setDE_mem (v : Word) (s : State) : (s.setDE v).mem = s.mem := rfl
@[simp] theorem State.setDE_busLog (v : Word) (s : State) : (s.setDE v).busLog = s.busLog := rfl
@[simp] theorem State.setDE_lastAccess (v : Word) (s : State) : (s.setDE v).lastAccess = s.lastAccess := rfl
@[simp] theorem State.setDE_trace (v : Word) (s : State) : (s.setDE v).trace = s.trace := rfl
@[simp] theorem State.setDE_callback (v : Word) (s : State) : (s.setDE v).callback = s.callback := rfl
@[simp] theorem State.setDE_observed (v : Word) (s : State) : (s.setDE v).observed = s.observed := rfl
@[simp] theorem State.setDE_errors (v : Word) (s : State) : (s.setDE v).errors = s.errors := rfl
@[simp] theorem State.setDE_wasReset (v : Word) (s : State) : (s.setDE v).wasReset = s.wasReset := rfl
@[simp] theorem State.setDE_draws (v : Word) (s : State) : (s.setDE v).draws = s.draws := rfl
@[simp] theorem State.bc_setDE (v : Word) (s : State) : (s.setDE v).bc = s.bc := rfl
@[simp] theorem State.hl_setDE (v : Word) (s : State) : (s.setDE v).hl = s.hl := rfl
@[simp] theorem State.af_setDE (v : Word) (s : State) : (s.setDE v).af = s.af := rfl
@[simp] theorem State.flag_setDE (x : Flag) (v : Word) (s : State) : (s.setDE v).flag x = s.flag x := rfl
@[simp] theorem State.cond_setDE (cc : Cond) (v : Word) (s : State) : (s.setDE v).cond cc = s.cond cc := rfl
@[simp] theorem State.busMayFault_setDE (v : Word) (s : State) : (s.setDE v).busMayFault = s.busMayFault := rfl
@[simp] theorem State.busValue_setDE (y : Word) (v : Word) (s : State) : (s.setDE v).busValue y = s.busValue y := rfl

/-! ### setHL -/

@[simp] theorem State.setHL_a (v : Word) (s : State) : (s.setHL v).a = s.a := rfl
@[simp] theorem State.setHL_f (v : Word) (s : State) : (s.setHL v).f = s.f := rfl
@[simp] theorem State.setHL_b (v : Word) (s : State) : (s.setHL v).b = s.b := rfl
@[simp] theorem State.setHL_c (v : Word) (s : State) : (s.setHL v).c = s.c := rfl
@[simp] theorem State.setHL_d (v : Word) (s : State) : (s.setHL v).d = s.d := rfl
@[simp] theorem State.setHL_e (v : Word) (s : State) : (s.setHL v).e = s.e := rfl
@[simp] theorem State.setHL_h (v : Word) (s : State) : (s.setHL v).h = hiByte v := rfl
@[simp] theorem State.setHL_l (v : Word) (s : State) : (s.setHL v).l = loByte v := rfl
@[simp] theorem State.setHL_sp (v : Word) (s : State) : (s.setHL v).sp = s.sp := rfl
@[simp] theorem State.setHL_pc (v : Word) (s : State) : (s.setHL v).pc = s.pc := rfl
@[simp] theorem State.setHL_bus (v : Word) (s : State) : (s.setHL v).bus = s.bus := rfl
@[simp] theorem State.setHL_mem (v : Word) (s : State) : (s.setHL v).mem = s.mem := rfl
@[simp] theorem State.setHL_busLog (v : Word) (s : State) : (s.setHL v).busLog = s.busLog := rfl
@[simp] theorem State.setHL_lastAccess (v : Word) (s : State) : (s.setHL v).lastAccess = s.lastAccess := rfl
@[simp] theorem State.setHL_trace (v : Word) (s : State) : (s.setHL v).trace = s.trace := rfl
@[simp] theorem State.setHL_callback (v : Word) (s : State) : (s.setHL v).callback = s.callback := rfl
@[simp] theorem State.setHL_observed (v : Word) (s : State) : (s.setHL v).observed = s.observed := rfl
@[simp] theorem State.setHL_errors (v : Word) (s : State) : (s.setHL v).errors = s.errors := rfl
@[simp] theorem State.setHL_wasReset (v : Word) (s : State) : (s.setHL v).wasReset = s.wasReset := rfl
@[simp] theorem State.setHL_draws (v : Word) (s : State) : (s.setHL v).draws = s.draws := rfl
@[simp] theorem State.bc_setHL (v : Word) (s : State) : (s.setHL v).bc = s.bc := rfl
@[simp] theorem State.de_setHL (v : Word) (s : State) : (s.setHL v).de = s.de := rfl
@[simp] theorem State.af_setHL (v : Word) (s : State) : (s.setHL v).af = s.af := rfl
@[simp] theorem State.flag_setHL (x : Flag) (v : Word) (s : State) : (s.setHL v).flag x = s.flag x := rfl
@[simp] theorem State.cond_setHL (cc : Cond) (v : Word) (s : State) : (s.setHL v).cond cc = s.cond cc := rfl
@[simp] theorem State.busMayFault_setHL (v : Word) (s : State) : (s.setHL v).busMayFault = s.busMayFault := rfl
@[simp] theorem State.busValue_setHL (y : Word) (v : Word) (s : State) : (s.setHL v).busValue y = s.busValue y := rfl

/-! ### setAF -/

@[simp] theorem State.setAF_a (v : Word) (s : State) : (s.setAF v).a = hiByte v := rfl
@[simp] theorem State.setAF_f (v : Word) (s : State) : (s.setAF v).f = loByte v &&& 0xF0 := rfl
@[simp] theorem State.setAF_b (v : Word) (s : State) : (s.setAF v).b = s.b := rfl
@[simp] theorem State.setAF_c (v : Word) (s : State) : (s.setAF v).c = s.c := rfl
@[simp] theorem State.setAF_d (v : Word) (s : State) : (s.setAF v).d = s.d := rfl
@[simp] theorem State.setAF_e (v : Word) (s : State) : (s.setAF v).e = s.e := rfl
@[simp] theorem State.setAF_h (v : Word) (s : State) : (s.setAF v).h = s.h := rfl
@[simp] theorem State.setAF_l (v : Word) (s : State) : (s.setAF v).l = s.l := rfl
@[simp] theorem State.setAF_sp (v : Word) (s : State) : (s.setAF v).sp = s.sp := rfl
@[simp] theorem State.setAF_pc (v : Word) (s : State) : (s.setAF v).pc = s.pc := rfl
@[simp] theorem State.setAF_bus (v : Word) (s : State) : (s.setAF v).bus = s.bus := rfl
@[simp] theorem State.setAF_mem (v : Word) (s : State) : (s.setAF v).mem = s.mem := rfl
@[simp] theorem State.setAF_busLog (v : Word) (s : State) : (s.setAF v).busLog = s.busLog := rfl
@[simp] theorem State.setAF_lastAccess (v : Word) (s : State) : (s.setAF v).lastAccess = s.lastAccess := rfl
@[simp] theorem State.setAF_trace (v : Word) (s : State) : (s.setAF v).trace = s.trace := rfl
@[simp] theorem State.setAF_callback (v : Word) (s : State) : (s.setAF v).callback = s.callback := rfl
@[simp] theorem State.setAF_observed (v : Word) (s : State) : (s.setAF v).observed = s.observed := rfl
@[simp] theorem State.setAF_errors (v : Word) (s : State) : (s.setAF v).errors = s.errors := rfl
@[simp] theorem State.setAF_wasReset (v : Word) (s : State) : (s.setAF v).wasReset = s.wasReset := rfl
@[simp] theorem State.setAF_draws (v : Word) (s : State) : (s.setAF v).draws = s.draws := rfl
@[simp] theorem State.reg16_setAF (rr : Reg16) (v : Word) (s : State) : (s.setAF v).reg16 rr = s.reg16 rr := rfl
@[simp] theorem State.bc_setAF (v : Word) (s : State) : (s.setAF v).bc = s.bc := rfl
@[simp] theorem State.de_setAF (v : Word) (s : State) : (s.setAF v).de = s.de := rfl
@[simp] theorem State.hl_setAF (v : Word) (s : State) : (s.setAF v).hl = s.hl := rfl
@[simp] theorem State.busMayFault_setAF (v : Word) (s : State) : (s.setAF v).busMayFault = s.busMayFault := rfl
@[simp] theorem State.busValue_setAF (y : Word) (v : Word) (s : State) : (s.setAF v).busValue y = s.busValue y := rfl

/-! ### setFlags -/

@[simp] theorem State.setFlags_a (z n h c : Bool) (s : State) : (s.setFlags z n h c).a = s.a := rfl
@[simp] theorem State.setFlags_f (z n h c : Bool) (s : State) : (s.setFlags z n h c).f = packFlags z n h c &&& 0xF0 := rfl
@[simp] theorem State.setFlags_b (z n h c : Bool) (s : State) : (s.setFlags z n h c).b = s.b := rfl
@[simp] theorem State.setFlags_c (z n h c : Bool) (s : State) : (s.setFlags z n h c).c = s.c := rfl
@[simp] theorem State.setFlags_d (z n h c : Bool) (s : State) : (s.setFlags z n h c).d = s.d := rfl
@[simp] theorem State.setFlags_e (z n h c : Bool) (s : State) : (s.setFlags z n h c).e = s.e := rfl
@[simp] theorem State.setFlags_h (z n h c : Bool) (s : State) : (s.setFlags z n h c).h = s.h := rfl
@[simp] theorem State.setFlags_l (z n h c : Bool) (s : State) : (s.setFlags z n h c).l = s.l := rfl
@[simp] theorem State.setFlags_sp (z n h c : Bool) (s : State) : (s.setFlags z n h c).sp = s.sp := rfl
@[simp] theorem State.setFlags_pc (z n h c : Bool) (s : State) : (s.setFlags z n h c).pc = s.pc := rfl
@[simp] theorem State.setFlags_bus (z n h c : Bool) (s : State) : (s.setFlags z n h c).bus = s.bus := rfl
@[simp] theorem State.setFlags_mem (z n h c : Bool) (s : State) : (s.setFlags z n h c).mem = s.mem := rfl
@[simp] theorem State.setFlags_busLog (z n h c : Bool) (s : State) : (s.setFlags z n h c).busLog = s.busLog := rfl
@[simp] theorem State.setFlags_lastAccess (z n h c : Bool) (s : State) : (s.setFlags z n h c).lastAccess = s.lastAccess := rfl
@[simp] theorem State.setFlags_trace (z n h c : Bool) (s : State) : (s.setFlags z n h c).trace = s.trace := rfl
@[simp] theorem State.setFlags_callback (z n h c : Bool) (s : State) : (s.setFlags z n h c).callback = s.callback := rfl
@[simp] theorem State.setFlags_observed (z n h c : Bool) (s : State) : (s.setFlags z n h c).observed = s.observed := rfl
@[simp] theorem State.setFlags_errors (z n h c : Bool) (s : State) : (s.setFlags z n h c).errors = s.errors := rfl
@[simp] theorem State.setFlags_wasReset (z n h c : Bool) (s : State) : (s.setFlags z n h c).wasReset = s.wasReset := rfl
@[simp] theorem State.setFlags_draws (z n h c : Bool) (s : State) : (s.setFlags z n h c).draws = s.draws := rfl
@[simp] theorem State.reg8_setFlags (r : Reg8) (z n h c : Bool) (s : State) : (s.setFlags z n h c).reg8 r = s.reg8 r := rfl
@[simp] theorem State.reg16_setFlags (rr : Reg16) (z n h c : Bool) (s : State) : (s.setFlags z n h c).reg16 rr = s.reg16 rr := rfl
@[simp] theorem State.bc_setFlags (z n h c : Bool) (s : State) : (s.setFlags z n h c).bc = s.bc := rfl
@[simp] theorem State.de_setFlags (z n h c : Bool) (s : State) : (s.setFlags z n h c).de = s.de := rfl
@[simp] theorem State.hl_setFlags (z n h c : Bool) (s : State) : (s.setFlags z n h c).hl = s.hl := rfl
@[simp] theorem State.busMayFault_setFlags (z n h c : Bool) (s : State) : (s.setFlags z n h c).busMayFault = s.busMayFault := rfl
@[simp] theorem State.busValue_setFlags (y : Word) (z n h c : Bool) (s : State) : (s.setFlags z n h c).busValue y = s.busValue y := rfl

/-! ### setFlag -/

@[simp] theorem State.setFlag_a (x : Flag) (b : Bool) (s : State) : (s.setFlag x b).a = s.a := rfl
@[simp] theorem State.setFlag_f (x : Flag) (b : Bool) (s : State) : (s.setFlag x b).f = (if b then s.f ||| x.mask else s.f &&& ~~~x.mask) &&& 0xF0 := rfl
@[simp] theorem State.setFlag_b (x : Flag) (b : Bool) (s : State) : (s.setFlag x b).b = s.b := rfl
@[simp] theorem State.setFlag_c (x : Flag) (b : Bool) (s : State) : (s.setFlag x b).c = s.c := rfl
@[simp] theorem State.setFlag_d (x : Flag) (b : Bool) (s : State) : (s.setFlag x b).d = s.d := rfl
@[simp] theorem State.setFlag_e (x : Flag) (b : Bool) (s : State) : (s.setFlag x b).e = s.e := rfl
@[simp] theorem State.setFlag_h (x : Flag) (b : Bool) (s : State) : (s.setFlag x b).h = s.h := rfl
@[simp] theorem State.setFlag_l (x : Flag) (b : Bool) (s : State) : (s.setFlag x b).l = s.l := rfl
@[simp] theorem State.setFlag_sp (x : Flag) (b : Bool) (s : State) : (s.setFlag x b).sp = s.sp := rfl
@[simp] theorem State.setFlag_pc (x : Flag) (b : Bool) (s : State) : (s.setFlag x b).pc = s.pc := rfl
@[simp] theorem State.setFlag_bus (x : Flag) (b : Bool) (s : State) : (s.setFlag x b).bus = s.bus := rfl
@[simp] theorem State.setFlag_mem (x : Flag) (b : Bool) (s : State) : (s.setFlag x b).mem = s.mem := rfl
@[simp] theorem State.setFlag_busLog (x : Flag) (b : Bool) (s : State) : (s.setFlag x b).busLog = s.busLog := rfl
@[simp] theorem State.setFlag_lastAccess (x : Flag) (b : Bool) (s : State) : (s.setFlag x b).lastAccess = s.lastAccess := rfl
@[simp] theorem State.setFlag_trace (x : Flag) (b : Bool) (s : State) : (s.setFlag x b).trace = s.trace := rfl
@[simp] theorem State.setFlag_callback (x : Flag) (b : Bool) (s : State) : (s.setFlag x b).callback = s.callback := rfl
@[simp] theorem State.setFlag_observed (x : Flag) (b : Bool) (s : State) : (s.setFlag x b).observed = s.observed := rfl
@[simp] theorem State.setFlag_errors (x : Flag) (b : Bool) (s : State) : (s.setFlag x b).errors = s.errors := rfl
@[simp] theorem State.setFlag_wasReset (x : Flag) (b : Bool) (s : State) : (s.setFlag x b).wasReset = s.wasReset := rfl
@[simp] theorem State.setFlag_draws (x : Flag) (b : Bool) (s : State) : (s.setFlag x b).draws = s.draws := rfl
@[simp] theorem State.reg8_setFlag (r : Reg8) (x : Flag) (b : Bool) (s : State) : (s.setFlag x b).reg8 r = s.reg8 r := rfl
@[simp] theorem State.reg16_setFlag (rr : Reg16) (x : Flag) (b : Bool) (s : State) : (s.setFlag x b).reg16 rr = s.reg16 rr := rfl
@[simp] theorem State.bc_setFlag (x : Flag) (b : Bool) (s : State) : (s.setFlag x b).bc = s.bc := rfl
@[simp] theorem State.de_setFlag (x : Flag) (b : Bool) (s : State) : (s.setFlag x b).de = s.de := rfl
@[simp] theorem State.hl_setFlag (x : Flag) (b : Bool) (s : State) : (s.setFlag x b).hl = s.hl := rfl
@[simp] theorem State.busMayFault_setFlag (x : Flag) (b : Bool) (s : State) : (s.setFlag x b).busMayFault = s.busMayFault := rfl
@[simp] theorem State.busValue_setFlag (y : Word) (x : Flag) (b : Bool) (s : State) : (s.setFlag x b).busValue y = s.busValue y := rfl

/-! ### toggleFlag -/

@[simp] theorem State.toggleFlag_a (x : Flag) (s : State) : (s.toggleFlag x).a = s.a := rfl
@[simp] theorem State.toggleFlag_b (x : Flag) (s : State) : (s.toggleFlag x).b = s.b := rfl
@[simp] theorem State.toggleFlag_c (x : Flag) (s : State) : (s.toggleFlag x).c = s.c := rfl
@[simp] theorem State.toggleFlag_d (x : Flag) (s : State) : (s.toggleFlag x).d = s.d := rfl
@[simp] theorem State.toggleFlag_e (x : Flag) (s : State) : (s.toggleFlag x).e = s.e := rfl
@[simp] theorem State.toggleFlag_h (x : Flag) (s : State) : (s.toggleFlag x).h = s.h := rfl
@[simp] theorem State.toggleFlag_l (x : Flag) (s : State) : (s.toggleFlag x).l = s.l := rfl
@[simp] theorem State.toggleFlag_sp (x : Flag) (s : State) : (s.toggleFlag x).sp = s.sp := rfl
@[simp] theorem State.toggleFlag_pc (x : Flag) (s : State) : (s.toggleFlag x).pc = s.pc := rfl
@[simp] theorem State.toggleFlag_bus (x : Flag) (s : State) : (s.toggleFlag x).bus = s.bus := rfl
@[simp] theorem State.toggleFlag_mem (x : Flag) (s : State) : (s.toggleFlag x).mem = s.mem := rfl
@[simp] theorem State.toggleFlag_busLog (x : Flag) (s : State) : (s.toggleFlag x).busLog = s.busLog := rfl
@[simp] theorem State.toggleFlag_lastAccess (x : Flag) (s : State) : (s.toggleFlag x).lastAccess = s.lastAccess := rfl
@[simp] theorem State.toggleFlag_trace (x : Flag) (s : State) : (s.toggleFlag x).trace = s.trace := rfl
@[simp] theorem State.toggleFlag_callback (x : Flag) (s : State) : (s.toggleFlag x).callback = s.callback := rfl
@[simp] theorem State.toggleFlag_observed (x : Flag) (s : State) : (s.toggleFlag x).observed = s.observed := rfl
@[simp] theorem State.toggleFlag_errors (x : Flag) (s : State) : (s.toggleFlag x).errors = s.errors := rfl
@[simp] theorem State.toggleFlag_wasReset (x : Flag) (s : State) : (s.toggleFlag x).wasReset = s.wasReset := rfl
@[simp] theorem State.toggleFlag_draws (x : Flag) (s : State) : (s.toggleFlag x).draws = s.draws := rfl
@[simp] theorem State.reg8_toggleFlag (r : Reg8) (x : Flag) (s : State) : (s.toggleFlag x).reg8 r = s.reg8 r := rfl
@[simp] theorem State.reg16_toggleFlag (rr : Reg16) (x : Flag) (s : State) : (s.toggleFlag x).reg16 rr = s.reg16 rr := rfl
@[simp] theorem State.bc_toggleFlag (x : Flag) (s : State) : (s.toggleFlag x).bc = s.bc := rfl
@[simp] theorem State.de_toggleFlag (x : Flag) (s : State) : (s.toggleFlag x).de = s.de := rfl
@[simp] theorem State.hl_toggleFlag (x : Flag) (s : State) : (s.toggleFlag x).hl = s.hl := rfl
@[simp] theorem State.busMayFault_toggleFlag (x : Flag) (s : State) : (s.toggleFlag x).busMayFault = s.busMayFault := rfl
@[simp] theorem State.busValue_toggleFlag (y : Word) (x : Flag) (s : State) : (s.toggleFlag x).busValue y = s.busValue y := rfl

/-! ### setIncFlags -/

@[simp] theorem State.setIncFlags_a (v : Byte) (s : State) : (s.setIncFlags v).a = s.a := rfl
@[simp] theorem State.setIncFlags_b (v : Byte) (s : State) : (s.setIncFlags v).b = s.b := rfl
@[simp] theorem State.setIncFlags_c (v : Byte) (s : State) : (s.setIncFlags v).c = s.c := rfl
@[simp] theorem State.setIncFlags_d (v : Byte) (s : State) : (s.setIncFlags v).d = s.d := rfl
@[simp] theorem State.setIncFlags_e (v : Byte) (s : State) : (s.setIncFlags v).e = s.e := rfl
@[simp] theorem State.setIncFlags_h (v : Byte) (s : State) : (s.setIncFlags v).h = s.h := rfl
@[simp] theorem State.setIncFlags_l (v : Byte) (s : State) : (s.setIncFlags v).l = s.l := rfl
@[simp] theorem State.setIncFlags_sp (v : Byte) (s : State) : (s.setIncFlags v).sp = s.sp := rfl
@[simp] theorem State.setIncFlags_pc (v : Byte) (s : State) : (s.setIncFlags v).pc = s.pc := rfl
@[simp] theorem State.setIncFlags_bus (v : Byte) (s : State) : (s.setIncFlags v).bus = s.bus := rfl
@[simp] theorem State.setIncFlags_mem (v : Byte) (s : State) : (s.setIncFlags v).mem = s.mem := rfl
@[simp] theorem State.setIncFlags_busLog (v : Byte) (s : State) : (s.setIncFlags v).busLog = s.busLog := rfl
@[simp] theorem State.setIncFlags_lastAccess (v : Byte) (s : State) : (s.setIncFlags v).lastAccess = s.lastAccess := rfl
@[simp] theorem State.setIncFlags_trace (v : Byte) (s : State) : (s.setIncFlags v).trace = s.trace := rfl
@[simp] theorem State.setIncFlags_callback (v : Byte) (s : State) : (s.setIncFlags v).callback = s.callback := rfl
@[simp] theorem State.setIncFlags_observed (v : Byte) (s : State) : (s.setIncFlags v).observed = s.observed := rfl
@[simp] theorem State.setIncFlags_errors (v : Byte) (s : State) : (s.setIncFlags v).errors = s.errors := rfl
@[simp] theorem State.setIncFlags_wasReset (v : Byte) (s : State) : (s.setIncFlags v).wasReset = s.wasReset := rfl
@[simp] theorem State.setIncFlags_draws (v : Byte) (s : State) : (s.setIncFlags v).draws = s.draws := rfl
@[simp] theorem State.reg8_setIncFlags (r : Reg8) (v : Byte) (s : State) : (s.setIncFlags v).reg8 r = s.reg8 r := rfl
@[simp] theorem State.reg16_setIncFlags (rr : Reg16) (v : Byte) (s : State) : (s.setIncFlags v).reg16 rr = s.reg16 rr := rfl
@[simp] theorem State.bc_setIncFlags (v : Byte) (s : State) : (s.setIncFlags v).bc = s.bc := rfl
@[simp] theorem State.de_setIncFlags (v : Byte) (s : State) : (s.setIncFlags v).de = s.de := rfl
@[simp] theorem State.hl_setIncFlags (v : Byte) (s : State) : (s.setIncFlags v).hl = s.hl := rfl
@[simp] theorem State.busMayFault_setIncFlags (v : Byte) (s : State) : (s.setIncFlags v).busMayFault = s.busMayFault := rfl
@[simp] theorem State.busValue_setIncFlags (y : Word) (v : Byte) (s : State) : (s.setIncFlags v).busValue y = s.busValue y := rfl

/-! ### setDecFlags -/

@[simp] theorem State.setDecFlags_a (v : Byte) (s : State) : (s.setDecFlags v).a = s.a := rfl
@[simp] theorem State.setDecFlags_b (v : Byte) (s : State) : (s.setDecFlags v).b = s.b := rfl
@[simp] theorem State.setDecFlags_c (v : Byte) (s : State) : (s.setDecFlags v).c = s.c := rfl
@[simp] theorem State.setDecFlags_d (v : Byte) (s : State) : (s.setDecFlags v).d = s.d := rfl
@[simp] theorem State.setDecFlags_e (v : Byte) (s : State) : (s.setDecFlags v).e = s.e := rfl
@[simp] theorem State.setDecFlags_h (v : Byte) (s : State) : (s.setDecFlags v).h = s.h := rfl
@[simp] theorem State.setDecFlags_l (v : Byte) (s : State) : (s.setDecFlags v).l = s.l := rfl
@[simp] theorem State.setDecFlags_sp (v : Byte) (s : State) : (s.setDecFlags v).sp = s.sp := rfl
@[simp] theorem State.setDecFlags_pc (v : Byte) (s : State) : (s.setDecFlags v).pc = s.pc := rfl
@[simp] theorem State.setDecFlags_bus (v : Byte) (s : State) : (s.setDecFlags v).bus = s.bus := rfl
@[simp] theorem State.setDecFlags_mem (v : Byte) (s : State) : (s.setDecFlags v).mem = s.mem := rfl
@[simp] theorem State.setDecFlags_busLog (v : Byte) (s : State) : (s.setDecFlags v).busLog = s.busLog := rfl
@[simp] theorem State.setDecFlags_lastAccess (v : Byte) (s : State) : (s.setDecFlags v).lastAccess = s.lastAccess := rfl
@[simp] theorem State.setDecFlags_trace (v : Byte) (s : State) : (s.setDecFlags v).trace = s.trace := rfl
@[simp] theorem State.setDecFlags_callback (v : Byte) (s : State) : (s.setDecFlags v).callback = s.callback := rfl
@[simp] theorem State.setDecFlags_observed (v : Byte) (s : State) : (s.setDecFlags v).observed = s.observed := rfl
@[simp] theorem State.setDecFlags_errors (v : Byte) (s : State) : (s.setDecFlags v).errors = s.errors := rfl
@[simp] theorem State.setDecFlags_wasReset (v : Byte) (s : State) : (s.setDecFlags v).wasReset = s.wasReset := rfl
@[simp] theorem State.setDecFlags_draws (v : Byte) (s : State) : (s.setDecFlags v).draws = s.draws := rfl
@[simp] theorem State.reg8_setDecFlags (r : Reg8) (v : Byte) (s : State) : (s.setDecFlags v).reg8 r = s.reg8 r := rfl
@[simp] theorem State.reg16_setDecFlags (rr : Reg16) (v : Byte) (s : State) : (s.setDecFlags v).reg16 rr = s.reg16 rr := rfl
@[simp] theorem State.bc_setDecFlags (v : Byte) (s : State) : (s.setDecFlags v).bc = s.bc := rfl
@[simp] theorem State.de_setDecFlags (v : Byte) (s : State) : (s.setDecFlags v).de = s.de := rfl
@[simp] theorem State.hl_setDecFlags (v : Byte) (s : State) : (s.setDecFlags v).hl = s.hl := rfl
@[simp] theorem State.busMayFault_setDecFlags (v : Byte) (s : State) : (s.setDecFlags v).busMayFault = s.busMayFault := rfl
@[simp] theorem State.busValue_setDecFlags (y : Word) (v : Byte) (s : State) : (s.setDecFlags v).busValue y = s.busValue y := rfl

/-! ### emit -/

@[simp] theorem State.emit_a (t : Tick) (s : State) : (s.emit t).a = s.a := rfl
@[simp] theorem State.emit_f (t : Tick) (s : State) : (s.emit t).f = s.f := rfl
@[simp] theorem State.emit_b (t : Tick) (s : State) : (s.emit t).b = s.b := rfl
@[simp] theorem State.emit_c (t : Tick) (s : State) : (s.emit t).c = s.c := rfl
@[simp] theorem State.emit_d (t : Tick) (s : State) : (s.emit t).d = s.d := rfl
@[simp] theorem State.emit_e (t : Tick) (s : State) : (s.emit t).e = s.e := rfl
@[simp] theorem State.emit_h (t : Tick) (s : State) : (s.emit t).h = s.h := rfl
@[simp] theorem State.emit_l (t : Tick) (s : State) : (s.emit t).l = s.l := rfl
@[simp] theorem State.emit_sp (t : Tick) (s : State) : (s.emit t).sp = s.sp := rfl
@[simp] theorem State.emit_pc (t : Tick) (s : State) : (s.emit t).pc = s.pc := rfl
@[simp] theorem State.emit_bus (t : Tick) (s : State) : (s.emit t).bus = s.bus := rfl
@[simp] theorem State.emit_mem (t : Tick) (s : State) : (s.emit t).mem = s.mem := rfl
@[simp] theorem State.emit_busLog (t : Tick) (s : State) : (s.emit t).busLog = s.busLog := rfl
@[simp] theorem State.emit_lastAccess (t : Tick) (s : State) : (s.emit t).lastAccess = s.lastAccess := rfl
@[simp] theorem State.emit_trace (t : Tick) (s : State) : (s.emit t).trace = s.trace ++ [t] := rfl
@[simp] theorem State.emit_callback (t : Tick) (s : State) : (s.emit t).callback = s.callback := rfl
@[simp] theorem State.emit_observed (t : Tick) (s : State) : (s.emit t).observed = if s.callback then s.observed ++ [t] else s.observed := rfl
@[simp] theorem State.emit_errors (t : Tick) (s : State) : (s.emit t).errors = s.errors := rfl
@[simp] theorem State.emit_wasReset (t : Tick) (s : State) : (s.emit t).wasReset = s.wasReset := rfl
@[simp] theorem State.emit_draws (t : Tick) (s : State) : (s.emit t).draws = s.draws := rfl
@[simp] theorem State.reg8_emit (r : Reg8) (t : Tick) (s : State) : (s.emit t).reg8 r = s.reg8 r := rfl
@[simp] theorem State.reg16_emit (rr : Reg16) (t : Tick) (s : State) : (s.emit t).reg16 rr = s.reg16 rr := rfl
@[simp] theorem State.pair_emit (p : StackPair) (t : Tick) (s : State) : (s.emit t).pair p = s.pair p := rfl
@[simp] theorem State.bc_emit (t : Tick) (s : State) : (s.emit t).bc = s.bc := rfl
@[simp] theorem State.de_emit (t : Tick) (s : State) : (s.emit t).de = s.de := rfl
@[simp] theorem State.hl_emit (t : Tick) (s : State) : (s.emit t).hl = s.hl := rfl
@[simp] theorem State.af_emit (t : Tick) (s : State) : (s.emit t).af = s.af := rfl
@[simp] theorem State.flag_emit (x : Flag) (t : Tick) (s : State) : (s.emit t).flag x = s.flag x := rfl
@[simp] theorem State.cond_emit (cc : Cond) (t : Tick) (s : State) : (s.emit t).cond cc = s.cond cc := rfl
@[simp] theorem State.busMayFault_emit (t : Tick) (s : State) : (s.emit t).busMayFault = s.busMayFault := rfl
@[simp] theorem State.busValue_emit (y : Word) (t : Tick) (s : State) : (s.emit t).busValue y = s.busValue y := rfl

/-! ### internal -/

@[simp] theorem State.internal_a (s : State) : (s.internal).a = s.a := rfl
@[simp] theorem State.internal_f (s : State) : (s.internal).f = s.f := rfl
@[simp] theorem State.internal_b (s : State) : (s.internal).b = s.b := rfl
@[simp] theorem State.internal_c (s : State) : (s.internal).c = s.c := rfl
@[simp] theorem State.internal_d (s : State) : (s.internal).d = s.d := rfl
@[simp] theorem State.internal_e (s : State) : (s.internal).e = s.e := rfl
@[simp] theorem State.internal_h (s : State) : (s.internal).h = s.h := rfl
@[simp] theorem State.internal_l (s : State) : (s.internal).l = s.l := rfl
@[simp] theorem State.internal_sp (s : State) : (s.internal).sp = s.sp := rfl
@[simp] theorem State.internal_pc (s : State) : (s.internal).pc = s.pc := rfl
@[simp] theorem State.internal_bus (s : State) : (s.internal).bus = s.bus := rfl
@[simp] theorem State.internal_mem (s : State) : (s.internal).mem = s.mem := rfl
@[simp] theorem State.internal_busLog (s : State) : (s.internal).busLog = s.busLog := rfl
@[simp] theorem State.internal_lastAccess (s : State) : (s.internal).lastAccess = s.lastAccess := rfl
@[simp] theorem State.internal_trace (s : State) : (s.internal).trace = s.trace ++ [.internal] := rfl
@[simp] theorem State.internal_callback (s : State) : (s.internal).callback = s.callback := rfl
@[simp] theorem State.internal_observed (s : State) : (s.internal).observed = if s.callback then s.observed ++ [.internal] else s.observed := rfl
@[simp] theorem State.internal_errors (s : State) : (s.internal).errors = s.errors := rfl
@[simp] theorem State.internal_wasReset (s : State) : (s.internal).wasReset = s.wasReset := rfl
@[simp] theorem State.internal_draws (s : State) : (s.internal).draws = s.draws := rfl
@[simp] theorem State.reg8_internal (r : Reg8) (s : State) : (s.internal).reg8 r = s.reg8 r := rfl
@[simp] theorem State.reg16_internal (rr : Reg16) (s : State) : (s.internal).reg16 rr = s.reg16 rr := rfl
@[simp] theorem State.pair_internal (p : StackPair) (s : State) : (s.internal).pair p = s.pair p := rfl
@[simp] theorem State.bc_internal (s : State) : (s.internal).bc = s.bc := rfl
@[simp] theorem State.de_internal (s : State) : (s.internal).de = s.de := rfl
@[simp] theorem State.hl_internal (s : State) : (s.internal).hl = s.hl := rfl
@[simp] theorem State.af_internal (s : State) : (s.internal).af = s.af := rfl
@[simp] theorem State.flag_internal (x : Flag) (s : State) : (s.internal).flag x = s.flag x := rfl
@[simp] theorem State.cond_internal (cc : Cond) (s : State) : (s.internal).cond cc = s.cond cc := rfl
@[simp] theorem State.busMayFault_internal (s : State) : (s.internal).busMayFault = s.busMayFault := rfl
@[simp] theorem State.busValue_internal (y : Word) (s : State) : (s.internal).busValue y = s.busValue y := rfl

/-! ### beginStep -/

@[simp] theorem State.beginStep_a (s : State) : (s.beginStep).a = s.a := rfl
@[simp] theorem State.beginStep_f (s : State) : (s.beginStep).f = s.f := rfl
@[simp] theorem State.beginStep_b (s : State) : (s.beginStep).b = s.b := rfl
@[simp] theorem State.beginStep_c (s : State) : (s.beginStep).c = s.c := rfl
@[simp] theorem State.beginStep_d (s : State) : (s.beginStep).d = s.d := rfl
@[simp] theorem State.beginStep_e (s : State) : (s.beginStep).e = s.e := rfl
@[simp] theorem State.beginStep_h (s : State) : (s.beginStep).h = s.h := rfl
@[simp] theorem State.beginStep_l (s : State) : (s.beginStep).l = s.l := rfl
@[simp] theorem State.beginStep_sp (s : State) : (s.beginStep).sp = s.sp := rfl
@[simp] theorem State.beginStep_pc (s : State) : (s.beginStep).pc = s.pc := rfl
@[simp] theorem State.beginStep_bus (s : State) : (s.beginStep).bus = s.bus := rfl
@[simp] theorem State.beginStep_mem (s : State) : (s.beginStep).mem = s.mem := rfl
@[simp] theorem State.beginStep_busLog (s : State) : (s.beginStep).busLog = s.busLog := rfl
@[simp] theorem State.beginStep_lastAccess (s : State) : (s.beginStep).lastAccess = s.lastAccess := rfl
@[simp] theorem State.beginStep_trace (s : State) : (s.beginStep).trace = [] := rfl
@[simp] theorem State.beginStep_callback (s : State) : (s.beginStep).callback = s.callback := rfl
@[simp] theorem State.beginStep_observed (s : State) : (s.beginStep).observed = [] := rfl
@[simp] theorem State.beginStep_errors (s : State) : (s.beginStep).errors = s.errors := rfl
@[simp] theorem State.beginStep_wasReset (s : State) : (s.beginStep).wasReset = s.wasReset := rfl
@[simp] theorem State.beginStep_draws (s : State) : (s.beginStep).draws = s.draws := rfl
@[simp] theorem State.reg8_beginStep (r : Reg8) (s : State) : (s.beginStep).reg8 r = s.reg8 r := rfl
@[simp] theorem State.reg16_beginStep (rr : Reg16) (s : State) : (s.beginStep).reg16 rr = s.reg16 rr := rfl
@[simp] theorem State.pair_beginStep (p : StackPair) (s : State) : (s.beginStep).pair p = s.pair p := rfl
@[simp] theorem State.bc_beginStep (s : State) : (s.beginStep).bc = s.bc := rfl
@[simp] theorem State.de_beginStep (s : State) : (s.beginStep).de = s.de := rfl
@[simp] theorem State.hl_beginStep (s : State) : (s.beginStep).hl = s.hl := rfl
@[simp] theorem State.af_beginStep (s : State) : (s.beginStep).af = s.af := rfl
@[simp] theorem State.flag_beginStep (x : Flag) (s : State) : (s.beginStep).flag x = s.flag x := rfl
@[simp] theorem State.cond_beginStep (cc : Cond) (s : State) : (s.beginStep).cond cc = s.cond cc := rfl
@[simp] theorem State.busMayFault_beginStep (s : State) : (s.beginStep).busMayFault = s.busMayFault := rfl
@[simp] theorem State.busValue_beginStep (y : Word) (s : State) : (s.beginStep).busValue y = s.busValue y := rfl

/-! ### recordError -/

@[simp] theorem State.recordError_a (k : ErrorKind) (s : State) : (s.recordError k).a = s.a := rfl
@[simp] theorem State.recordError_f (k : ErrorKind) (s : State) : (s.recordError k).f = s.f := rfl
@[simp] theorem State.recordError_b (k : ErrorKind) (s : State) : (s.recordError k).b = s.b := rfl
@[simp] theorem State.recordError_c (k : ErrorKind) (s : State) : (s.recordError k).c = s.c := rfl
@[simp] theorem State.recordError_d (k : ErrorKind) (s : State) : (s.recordError k).d = s.d := rfl
@[simp] theorem State.recordError_e (k : ErrorKind) (s : State) : (s.recordError k).e = s.e := rfl
@[simp] theorem State.recordError_h (k : ErrorKind) (s : State) : (s.recordError k).h = s.h := rfl
@[simp] theorem State.recordError_l (k : ErrorKind) (s : State) : (s.recordError k).l = s.l := rfl
@[simp] theorem State.recordError_sp (k : ErrorKind) (s : State) : (s.recordError k).sp = s.sp := rfl
@[simp] theorem State.recordError_pc (k : ErrorKind) (s : State) : (s.recordError k).pc = s.pc := rfl
@[simp] theorem State.recordError_bus (k : ErrorKind) (s : State) : (s.recordError k).bus = s.bus := rfl
@[simp] theorem State.recordError_mem (k : ErrorKind) (s : State) : (s.recordError k).mem = s.mem := rfl
@[simp] theorem State.recordError_busLog (k : ErrorKind) (s : State) : (s.recordError k).busLog = s.busLog := rfl
@[simp] theorem State.recordError_lastAccess (k : ErrorKind) (s : State) : (s.recordError k).lastAccess = s.lastAccess := rfl
@[simp] theorem State.recordError_trace (k : ErrorKind) (s : State) : (s.recordError k).trace = s.trace := rfl
@[simp] theorem State.recordError_callback (k : ErrorKind) (s : State) : (s.recordError k).callback = s.callback := rfl
@[simp] theorem State.recordError_observed (k : ErrorKind) (s : State) : (s.recordError k).observed = s.observed := rfl
@[simp] theorem State.recordError_errors (k : ErrorKind) (s : State) : (s.recordError k).errors = k :: s.errors := rfl
@[simp] theorem State.recordError_wasReset (k : ErrorKind) (s : State) : (s.recordError k).wasReset = s.wasReset := rfl
@[simp] theorem State.recordError_draws (k : ErrorKind) (s : State) : (s.recordError k).draws = s.draws := rfl
@[simp] theorem State.reg8_recordError (r : Reg8) (k : ErrorKind) (s : State) : (s.recordError k).reg8 r = s.reg8 r := rfl
@[simp] theorem State.reg16_recordError (rr : Reg16) (k : ErrorKind) (s : State) : (s.recordError k).reg16 rr = s.reg16 rr := rfl
@[simp] theorem State.pair_recordError (p : StackPair) (k : ErrorKind) (s : State) : (s.recordError k).pair p = s.pair p := rfl
@[simp] theorem State.bc_recordError (k : ErrorKind) (s : State) : (s.recordError k).bc = s.bc := rfl
@[simp] theorem State.de_recordError (k : ErrorKind) (s : State) : (s.recordError k).de = s.de := rfl
@[simp] theorem State.hl_recordError (k : ErrorKind) (s : State) : (s.recordError k).hl = s.hl := rfl
@[simp] theorem State.af_recordError (k : ErrorKind) (s : State) : (s.recordError k).af = s.af := rfl
@[simp] theorem State.flag_recordError (x : Flag) (k : ErrorKind) (s : State) : (s.recordError k).flag x = s.flag x := rfl
@[simp] theorem State.cond_recordError (cc : Cond) (k : ErrorKind) (s : State) : (s.recordError k).cond cc = s.cond cc := rfl
@[simp] theorem State.busMayFault_recordError (k : ErrorKind) (s : State) : (s.recordError k).busMayFault = s.busMayFault := rfl
@[simp] theorem State.busValue_recordError (y : Word) (k : ErrorKind) (s : State) : (s.recordError k).busValue y = s.busValue y := rfl

/-! ### afterRead -/

@[simp] theorem State.afterRead_a (addr : Word) (s : State) : (s.afterRead addr).a = s.a := rfl
@[simp] theorem State.afterRead_f (addr : Word) (s : State) : (s.afterRead addr).f = s.f := rfl
@[simp] theorem State.afterRead_b (addr : Word) (s : State) : (s.afterRead addr).b = s.b := rfl
@[simp] theorem State.afterRead_c (addr : Word) (s : State) : (s.afterRead addr).c = s.c := rfl
@[simp] theorem State.afterRead_d (addr : Word) (s : State) : (s.afterRead addr).d = s.d := rfl
@[simp] theorem State.afterRead_e (addr : Word) (s : State) : (s.afterRead addr).e = s.e := rfl
@[simp] theorem State.afterRead_h (addr : Word) (s : State) : (s.afterRead addr).h = s.h := rfl
@[simp] theorem State.afterRead_l (addr : Word) (s : State) : (s.afterRead addr).l = s.l := rfl
@[simp] theorem State.afterRead_sp (addr : Word) (s : State) : (s.afterRead addr).sp = s.sp := rfl
@[simp] theorem State.afterRead_pc (addr : Word) (s : State) : (s.afterRead addr).pc = s.pc := rfl
@[simp] theorem State.afterRead_bus (addr : Word) (s : State) : (s.afterRead addr).bus = s.bus := rfl
@[simp] theorem State.afterRead_mem (addr : Word) (s : State) : (s.afterRead addr).mem = s.mem := rfl
@[simp] theorem State.afterRead_busLog (addr : Word) (s : State) : (s.afterRead addr).busLog = s.logAfter (.read addr) := rfl
@[simp] theorem State.afterRead_lastAccess (addr : Word) (s : State) : (s.afterRead addr).lastAccess = some ⟨addr, s.busValue addr, .read⟩ := rfl
@[simp] theorem State.afterRead_trace (addr : Word) (s : State) : (s.afterRead addr).trace = s.trace ++ [.read addr (s.busValue addr)] := rfl
@[simp] theorem State.afterRead_callback (addr : Word) (s : State) : (s.afterRead addr).callback = s.callback := rfl
@[simp] theorem State.afterRead_observed (addr : Word) (s : State) : (s.afterRead addr).observed = if s.callback then s.observed ++ [.read addr (s.busValue addr)] else s.observed := rfl
@[simp] theorem State.afterRead_errors (addr : Word) (s : State) : (s.afterRead addr).errors = s.errors := rfl
@[simp] theorem State.afterRead_wasReset (addr : Word) (s : State) : (s.afterRead addr).wasReset = s.wasReset := rfl
@[simp] theorem State.afterRead_draws (addr : Word) (s : State) : (s.afterRead addr).draws = s.draws := rfl
@[simp] theorem State.reg8_afterRead (r : Reg8) (addr : Word) (s : State) : (s.afterRead addr).reg8 r = s.reg8 r := rfl
@[simp] theorem State.reg16_afterRead (rr : Reg16) (addr : Word) (s : State) : (s.afterRead addr).reg16 rr = s.reg16 rr := rfl
@[simp] theorem State.pair_afterRead (p : StackPair) (addr : Word) (s : State) : (s.afterRead addr).pair p = s.pair p := rfl
@[simp] theorem State.bc_afterRead (addr : Word) (s : State) : (s.afterRead addr).bc = s.bc := rfl
@[simp] theorem State.de_afterRead (addr : Word) (s : State) : (s.afterRead addr).de = s.de := rfl
@[simp] theorem State.hl_afterRead (addr : Word) (s : State) : (s.afterRead addr).hl = s.hl := rfl
@[simp] theorem State.af_afterRead (addr : Word) (s : State) : (s.afterRead addr).af = s.af := rfl
@[simp] theorem State.flag_afterRead (x : Flag) (addr : Word) (s : State) : (s.afterRead addr).flag x = s.flag x := rfl
@[simp] theorem State.cond_afterRead (cc : Cond) (addr : Word) (s : State) : (s.afterRead addr).cond cc = s.cond cc := rfl
@[simp] theorem State.busMayFault_afterRead (addr : Word) (s : State) : (s.afterRead addr).busMayFault = s.busMayFault := rfl

/-! ### afterWrite -/

@[simp] theorem State.afterWrite_a (addr : Word) (v : Byte) (s : State) : (s.afterWrite addr v).a = s.a := rfl
@[simp] theorem State.afterWrite_f (addr : Word) (v : Byte) (s : State) : (s.afterWrite addr v).f = s.f := rfl
@[simp] theorem State.afterWrite_b (addr : Word) (v : Byte) (s : State) : (s.afterWrite addr v).b = s.b := rfl
@[simp] theorem State.afterWrite_c (addr : Word) (v : Byte) (s : State) : (s.afterWrite addr v).c = s.c := rfl
@[simp] theorem State.afterWrite_d (addr : Word) (v : Byte) (s : State) : (s.afterWrite addr v).d = s.d := rfl
@[simp] theorem State.afterWrite_e (addr : Word) (v : Byte) (s : State) : (s.afterWrite addr v).e = s.e := rfl
@[simp] theorem State.afterWrite_h (addr : Word) (v : Byte) (s : State) : (s.afterWrite addr v).h = s.h := rfl
@[simp] theorem State.afterWrite_l (addr : Word) (v : Byte) (s : State) : (s.afterWrite addr v).l = s.l := rfl
@[simp] theorem State.afterWrite_sp (addr : Word) (v : Byte) (s : State) : (s.afterWrite addr v).sp = s.sp := rfl
@[simp] theorem State.afterWrite_pc (addr : Word) (v : Byte) (s : State) : (s.afterWrite addr v).pc = s.pc := rfl
@[simp] theorem State.afterWrite_bus (addr : Word) (v : Byte) (s : State) : (s.afterWrite addr v).bus = s.bus := rfl
@[simp] theorem State.afterWrite_mem (addr : Word) (v : Byte) (s : State) : (s.afterWrite addr v).mem = s.memAfter addr v := rfl
@[simp] theorem State.afterWrite_busLog (addr : Word) (v : Byte) (s : State) : (s.afterWrite addr v).busLog = s.logAfter (.write addr v) := rfl
@[simp] theorem State.afterWrite_lastAccess (addr : Word) (v : Byte) (s : State) : (s.afterWrite addr v).lastAccess = some ⟨addr, v, .write⟩ := rfl
@[simp] theorem State.afterWrite_trace (addr : Word) (v : Byte) (s : State) : (s.afterWrite addr v).trace = s.trace ++ [.write addr v] := rfl
@[simp] theorem State.afterWrite_callback (addr : Word) (v : Byte) (s : State) : (s.afterWrite addr v).callback = s.callback := rfl
@[simp] theorem State.afterWrite_observed (addr : Word) (v : Byte) (s : State) : (s.afterWrite addr v).observed = if s.callback then s.observed ++ [.write addr v] else s.observed := rfl
@[simp] theorem State.afterWrite_errors (addr : Word) (v : Byte) (s : State) : (s.afterWrite addr v).errors = s.errors := rfl
@[simp] theorem State.afterWrite_wasReset (addr : Word) (v : Byte) (s : State) : (s.afterWrite addr v).wasReset = s.wasReset := rfl
@[simp] theorem State.afterWrite_draws (addr : Word) (v : Byte) (s : State) : (s.afterWrite addr v).draws = s.draws := rfl
@[simp] theorem State.reg8_afterWrite (r : Reg8) (addr : Word) (v : Byte) (s : State) : (s.afterWrite addr v).reg8 r = s.reg8 r := rfl
@[simp] theorem State.reg16_afterWrite (rr : Reg16) (addr : Word) (v : Byte) (s : State) : (s.afterWrite addr v).reg16 rr = s.reg16 rr := rfl
@[simp] theorem State.pair_afterWrite (p : StackPair) (addr : Word) (v : Byte) (s : State) : (s.afterWrite addr v).pair p = s.pair p := rfl
@[simp] theorem State.bc_afterWrite (addr : Word) (v : Byte) (s : State) : (s.afterWrite addr v).bc = s.bc := rfl
@[simp] theorem State.de_afterWrite (addr : Word) (v : Byte) (s : State) : (s.afterWrite addr v).de = s.de := rfl
@[simp] theorem State.hl_afterWrite (addr : Word) (v : Byte) (s : State) : (s.afterWrite addr v).hl = s.hl := rfl
@[simp] theorem State.af_afterWrite (addr : Word) (v : Byte) (s : State) : (s.afterWrite addr v).af = s.af := rfl
@[simp] theorem State.flag_afterWrite (x : Flag) (addr : Word) (v : Byte) (s : State) : (s.afterWrite addr v).flag x = s.flag x := rfl
@[simp] theorem State.cond_afterWrite (cc : Cond) (addr : Word) (v : Byte) (s : State) : (s.afterWrite addr v).cond cc = s.cond cc := rfl
@[simp] theorem State.busMayFault_afterWrite (addr : Word) (v : Byte) (s : State) : (s.afterWrite addr v).busMayFault = s.busMayFault := rfl

/-! ### fetched -/

@[simp] theorem State.fetched_a (s : State) : (s.fetched).a = s.a := rfl
@[simp] theorem State.fetched_f (s : State) : (s.fetched).f = s.f := rfl
@[simp] theorem State.fetched_b (s : State) : (s.fetched).b = s.b := rfl
@[simp] theorem State.fetched_c (s : State) : (s.fetched).c = s.c := rfl
@[simp] theorem State.fetched_d (s : State) : (s.fetched).d = s.d := rfl
@[simp] theorem State.fetched_e (s : State) : (s.fetched).e = s.e := rfl
@[simp] theorem State.fetched_h (s : State) : (s.fetched).h = s.h := rfl
@[simp] theorem State.fetched_l (s : State) : (s.fetched).l = s.l := rfl
@[simp] theorem State.fetched_sp (s : State) : (s.fetched).sp = s.sp := rfl
@[simp] theorem State.fetched_pc (s : State) : (s.fetched).pc = s.pc + 1 := rfl
@[simp] theorem State.fetched_bus (s : State) : (s.fetched).bus = s.bus := rfl
@[simp] theorem State.fetched_mem (s : State) : (s.fetched).mem = s.mem := rfl
@[simp] theorem State.fetched_busLog (s : State) : (s.fetched).busLog = s.logAfter (.read s.pc) := rfl
@[simp] theorem State.fetched_lastAccess (s : State) : (s.fetched).lastAccess = some ⟨s.pc, s.busValue s.pc, .read⟩ := rfl
@[simp] theorem State.fetched_trace (s : State) : (s.fetched).trace = s.trace ++ [.read s.pc (s.busValue s.pc)] := rfl
@[simp] theorem State.fetched_callback (s : State) : (s.fetched).callback = s.callback := rfl
@[simp] theorem State.fetched_observed (s : State) : (s.fetched).observed = if s.callback then s.observed ++ [.read s.pc (s.busValue s.pc)] else s.observed := rfl
@[simp] theorem State.fetched_errors (s : State) : (s.fetched).errors = s.errors := rfl
@[simp] theorem State.fetched_wasReset (s : State) : (s.fetched).wasReset = s.wasReset := rfl
@[simp] theorem State.fetched_draws (s : State) : (s.fetched).draws = s.draws := rfl
@[simp] theorem State.reg8_fetched (r : Reg8) (s : State) : (s.fetched).reg8 r = s.reg8 r := rfl
@[simp] theorem State.reg16_fetched (rr : Reg16) (s : State) : (s.fetched).reg16 rr = s.reg16 rr := rfl
@[simp] theorem State.pair_fetched (p : StackPair) (s : State) : (s.fetched).pair p = s.pair p := rfl
@[simp] theorem State.bc_fetched (s : State) : (s.fetched).bc = s.bc := rfl
@[simp] theorem State.de_fetched (s : State) : (s.fetched).de = s.de := rfl
@[simp] theorem State.hl_fetched (s : State) : (s.fetched).hl = s.hl := rfl
@[simp] theorem State.af_fetched (s : State) : (s.fetched).af = s.af := rfl
@[simp] theorem State.flag_fetched (x : Flag) (s : State) : (s.fetched).flag x = s.flag x := rfl
@[simp] theorem State.cond_fetched (cc : Cond) (s : State) : (s.fetched).cond cc = s.cond cc := rfl
@[simp] theorem State.busMayFault_fetched (s : State) : (s.fetched).busMayFault = s.busMayFault := rfl

/-! ### What remains -/

@[simp] theorem State.busMayFault_setReg8 (r : Reg8) (v : Byte) (s : State) :
    (s.setReg8 r v).busMayFault = s.busMayFault := by cases r <;> rfl

/-- All four flags written (R23): each reads as given. -/
@[simp] theorem State.flag_setFlags (y : Flag) (z n h c : Bool) (s : State) :
    (s.setFlags z n h c).flag y = (match y with | .z => z | .n => n | .h => h | .c => c) := by
  show (packFlags z n h c &&& 0xF0).getLsbD y.bit = _
  cases y <;> cases z <;> cases n <;> cases h <;> cases c <;> decide

end Sys2Proof.Machine
end

