-- ==== Sys2Proof/Laws/Ops.lean ====
section
/-! SUPPORT. For each shared operation, once, everything it can do: how it runs when the bus does not fault, and what a
next state or a fault says. -/

namespace Sys2Proof.Machine

/-! ### Faults of the bus -/

theorem State.busFaultInfo_of_infallible {s : State} (h : s.busMayFault = false) (q : BusRequest) :
    s.busFaultInfo q = none := by
  simp [State.busFaultInfo, h]

/-- A read of a bus that does not fault. -/
theorem memRead_ok {s : State} (h : s.busMayFault = false) (addr : Word) (k : Byte → State → Result) :
    memRead addr s k = k (s.busValue addr) (s.afterRead addr) := by
  simp [memRead, State.busFaultInfo_of_infallible h]

/-- A write to a bus that does not fault. -/
theorem memWrite_ok {s : State} (h : s.busMayFault = false) (addr : Word) (v : Byte) (k : State → Result) :
    memWrite addr v s k = k (s.afterWrite addr v) := by
  simp [memWrite, State.busFaultInfo_of_infallible h]

/-- Everything a read can do: end the step with the bus's error, or go on with the byte. -/
theorem memRead_cases (addr : Word) (s : State) (k : Byte → State → Result) :
    (∃ info, s.busFaultInfo (.read addr) = some info ∧
      memRead addr s k = .fault (.busError info (s.afterBusError (.read addr) info))) ∨
    (s.busFaultInfo (.read addr) = none ∧ memRead addr s k = k (s.busValue addr) (s.afterRead addr)) := by
  unfold memRead
  cases h : s.busFaultInfo (.read addr) with
  | none => exact .inr ⟨rfl, rfl⟩
  | some info => exact .inl ⟨info, rfl, rfl⟩

/-- Everything a write can do. -/
theorem memWrite_cases (addr : Word) (v : Byte) (s : State) (k : State → Result) :
    (∃ info, s.busFaultInfo (.write addr v) = some info ∧
      memWrite addr v s k = .fault (.busError info (s.afterBusError (.write addr v) info))) ∨
    (s.busFaultInfo (.write addr v) = none ∧ memWrite addr v s k = k (s.afterWrite addr v)) := by
  unfold memWrite
  cases h : s.busFaultInfo (.write addr v) with
  | none => exact .inr ⟨rfl, rfl⟩
  | some info => exact .inl ⟨info, rfl, rfl⟩

/-- If a read answers a next state, the rest of the instruction did. -/
theorem memRead_next {addr : Word} {s t : State} {k : Byte → State → Result} (h : memRead addr s k = .next t) :
    k (s.busValue addr) (s.afterRead addr) = .next t := by
  rcases memRead_cases addr s k with ⟨info, -, e⟩ | ⟨-, e⟩ <;> rw [e] at h
  · cases h
  · exact h

/-- If a write answers a next state, the rest of the instruction did. -/
theorem memWrite_next {addr : Word} {v : Byte} {s t : State} {k : State → Result} (h : memWrite addr v s k = .next t) :
    k (s.afterWrite addr v) = .next t := by
  rcases memWrite_cases addr v s k with ⟨info, -, e⟩ | ⟨-, e⟩ <;> rw [e] at h
  · cases h
  · exact h

/-! ### The stack (R177, R178) -/

/-- The state after Push16: two writes, the high byte at SP - 1 and the low byte at SP - 2. -/
def State.afterPush (v : Word) (s : State) : State :=
  State.afterWrite (s.sp - 1 - 1) (loByte v)
    ((State.afterWrite (s.sp - 1) (hiByte v) (s.setSP (s.sp - 1))).setSP (s.sp - 1 - 1))

theorem push16_ok {s : State} (h : s.busMayFault = false) (v : Word) (k : State → Result) :
    push16 v s k = k (s.afterPush v) := by
  simp [push16, memWrite_ok, h, State.afterPush]

theorem push16_next {v : Word} {s t : State} {k : State → Result} (h : push16 v s k = .next t) :
    k (s.afterPush v) = .next t := by
  unfold push16 at h; exact memWrite_next (memWrite_next h)

/-- The state after Pop16: two reads, at SP and SP + 1. -/
def State.afterPop (s : State) : State :=
  (State.afterRead (s.sp + 1) ((s.afterRead s.sp).setSP (s.sp + 1))).setSP (s.sp + 1 + 1)

/-- The word Pop16 returns: the low byte read first (R178). -/
def State.popValue (s : State) : Word :=
  wordOf ((s.afterRead s.sp).busValue (s.sp + 1)) (s.busValue s.sp)

theorem pop16_ok {s : State} (h : s.busMayFault = false) (k : Word → State → Result) :
    pop16 s k = k s.popValue s.afterPop := by
  simp [pop16, memRead_ok, h, State.afterPop, State.popValue]

theorem pop16_next {s t : State} {k : Word → State → Result} (h : pop16 s k = .next t) :
    k s.popValue s.afterPop = .next t := by
  unfold pop16 at h; exact memRead_next (memRead_next h)

/-! ### Operands -/

/-- The state after reading an ALU operand. -/
def State.afterSource (x : Source8) (s : State) : State :=
  match x with
  | .atHL => s.afterRead s.hl
  | _ => s

theorem readSource_ok {s : State} (h : s.busMayFault = false) (x : Source8) (k : Byte → State → Result) :
    readSource x s k = k (s.sourceValue x) (s.afterSource x) := by
  cases x <;> simp [readSource, memRead_ok, h, State.sourceValue, State.afterSource]

theorem readSource_next {x : Source8} {s t : State} {k : Byte → State → Result} (h : readSource x s k = .next t) :
    k (s.sourceValue x) (s.afterSource x) = .next t := by
  cases x
  case reg r => exact h
  case atHL => exact memRead_next h
  case imm n => exact h

/-- The state after reading a CB target. -/
def State.afterTarget (x : Target8) (s : State) : State :=
  match x with
  | .reg _ => s
  | .atHL => s.afterRead s.hl

/-- The state after writing a CB target back. -/
def State.afterWriteTarget (x : Target8) (v : Byte) (s : State) : State :=
  match x with
  | .reg r => s.setReg8 r v
  | .atHL => s.afterWrite s.hl v

theorem readTarget_ok {s : State} (h : s.busMayFault = false) (x : Target8) (k : Byte → State → Result) :
    readTarget x s k = k (s.targetValue x) (s.afterTarget x) := by
  cases x <;> simp [readTarget, memRead_ok, h, State.targetValue, State.afterTarget]

theorem readTarget_next {x : Target8} {s t : State} {k : Byte → State → Result} (h : readTarget x s k = .next t) :
    k (s.targetValue x) (s.afterTarget x) = .next t := by
  cases x
  case reg r => exact h
  case atHL => exact memRead_next h

theorem writeTarget_ok {s : State} (h : s.busMayFault = false) (x : Target8) (v : Byte) (k : State → Result) :
    writeTarget x v s k = k (s.afterWriteTarget x v) := by
  cases x <;> simp [writeTarget, memWrite_ok, h, State.afterWriteTarget]

theorem writeTarget_next {x : Target8} {v : Byte} {s t : State} {k : State → Result}
    (h : writeTarget x v s k = .next t) : k (s.afterWriteTarget x v) = .next t := by
  cases x
  case reg r => exact h
  case atHL => exact memWrite_next h

/-! ### Fetching (R104, R111) -/

@[simp] theorem State.afterFetch_busMayFault (n : Nat) (s : State) : (s.afterFetch n).busMayFault = s.busMayFault := by
  induction n generalizing s with
  | zero => rfl
  | succ n ih => simp [State.afterFetch, ih]

theorem fetchByte_ok {s : State} (h : s.busMayFault = false) (k : Byte → State → Result) :
    fetchByte s k = k (s.busValue s.pc) s.fetched := memRead_ok h _ _

theorem fetchBytes_ok {s : State} (h : s.busMayFault = false) (n : Nat) (k : List Byte → State → Result) :
    fetchBytes n s k = k (s.fetchedBytes n) (s.afterFetch n) := by
  induction n generalizing s k with
  | zero => rfl
  | succ n ih =>
    rw [fetchBytes, fetchByte_ok h, ih (by simpa using h)]; rfl

/-- Fetching from a bus that does not fault: the bytes at PC, as many as the first one says, and the instruction they
decode to. -/
theorem fetchInstr_ok {s : State} (h : s.busMayFault = false) {i : Instr} {rest : List Byte} (k : Instr → State → Result)
    (hd : decode (s.fetchedBytes (opLength (s.busValue s.pc) - 1 + 1)) = .ok (i, rest)) :
    fetchInstr s k = k i (s.afterFetch (opLength (s.busValue s.pc) - 1 + 1)) := by
  rw [fetchInstr, fetchByte_ok h, fetchBytes_ok (by simpa using h)]
  have hd' : decode (s.busValue s.pc :: s.fetched.fetchedBytes (opLength (s.busValue s.pc) - 1)) = .ok (i, rest) := hd
  rw [hd']; rfl

end Sys2Proof.Machine
end

