-- ==== Sys2Proof/Laws/Exec.lean ====
section
/-! SUPPORT. exec by form: every instruction's meaning is the operation of its form, so that a proof about a form is one
proof and not one per constructor. -/

namespace Sys2Proof

open Machine

/-- The operation a form's meanings are. -/
def Form.exec (form : Form) (s : State) : Result :=
  match form with
  | .ldRR dst src => loadRegReg dst src s
  | .ldRN dst n => loadRegImm dst n s
  | .ldRAtHL dst => loadRegAt dst s.hl s
  | .ldAtHLR src => storeAt s.hl (s.reg8 src) s
  | .ldAtHLN n => storeAt s.hl n s
  | .ldAAtBC => loadRegAt .a s.bc s
  | .ldAAtDE => loadRegAt .a s.de s
  | .ldAAtNN nn => loadRegAt .a nn s
  | .ldAtBCA => storeAt s.bc s.a s
  | .ldAtDEA => storeAt s.de s.a s
  | .ldAtNNA nn => storeAt nn s.a s
  | .ldAAtHLInc => loadAStepHL 1 s
  | .ldAAtHLDec => loadAStepHL (-1) s
  | .ldAtHLIncA => storeAStepHL 1 s
  | .ldAtHLDecA => storeAStepHL (-1) s
  | .ldhAAtN n => loadRegAt .a (highPage n) s
  | .ldhAtNA n => storeAt (highPage n) s.a s
  | .ldhAAtC => loadRegAt .a (highPage s.c) s
  | .ldhAtCA => storeAt (highPage s.c) s.a s
  | .ldRRNN rr nn => loadPairImm rr nn s
  | .ldAtNNSP nn => storeSPAt nn s
  | .ldSPHL => loadSPHL s
  | .ldHLSPE e => loadHLSPE e s
  | .push p => pushPair p s
  | .pop p => popPair p s
  | .alu .cp x => compareA x s
  | .alu op x => aluA op x s
  | .incR r => incReg r s
  | .incAtHL => Machine.incAtHL s
  | .decR r => decReg r s
  | .decAtHL => Machine.decAtHL s
  | .incRR rr => incPair rr s
  | .decRR rr => decPair rr s
  | .addHLRR rr => addHLPair rr s
  | .addSPE e => addSPImm e s
  | .rotA op => rotateA op s
  | .rot op x => rotateTarget op x s
  | .bit n x => testBit n x s
  | .res n x => resetBit n x s
  | .set n x => setBit n x s
  | .jr e => jumpRelative e s
  | .jrCc cc e => jumpRelativeIf cc e s
  | .jp nn => jumpTo nn s
  | .jpCc cc nn => jumpIf cc nn s
  | .jpHL => jumpHL s
  | .call nn => callTo nn s
  | .callCc cc nn => callIf cc nn s
  | .ret => returnFromCall s
  | .retCc cc => returnIf cc s
  | .reti => returnFromCall s
  | .rst y => callTo (restartTarget y) s
  | .nop => noEffect s
  | .daa => decimalAdjust s
  | .cpl => complementA s
  | .scf => setCarry s
  | .ccf => complementCarry s
  | .di => noEffect s
  | .ei => noEffect s
  | .halt => twoInternal s
  | .stop => twoInternal s
  | .illegal b => raiseIllegalOpcode b s

/-- Every arm of exec is the operation of its instruction's form. -/
theorem Machine.exec_eq_form (i : Instr) (s : State) : exec i s = i.form.exec s := by
  cases i <;> rfl

end Sys2Proof
end

