-- ==== Sys2Proof/Tests/Slice0.lean ====
section
/-! SUPPORT. Small tests whose results stand in the spec (95_test_vectors.md, 20_memory.md R72), the refusals of
well-formedness, and a witness for the hypotheses of every statement that has any. -/

namespace Sys2Proof.Tests

open Sys2Proof.Machine

/-! ### Well-formedness: the eleven illegal rows are refused (R109) -/

theorem test_wf_refuses_D3 : Instr.illegal_D3.wf = false := by decide
theorem test_wf_refuses_DB : Instr.illegal_DB.wf = false := by decide
theorem test_wf_refuses_DD : Instr.illegal_DD.wf = false := by decide
theorem test_wf_refuses_E3 : Instr.illegal_E3.wf = false := by decide
theorem test_wf_refuses_E4 : Instr.illegal_E4.wf = false := by decide
theorem test_wf_refuses_EB : Instr.illegal_EB.wf = false := by decide
theorem test_wf_refuses_EC : Instr.illegal_EC.wf = false := by decide
theorem test_wf_refuses_ED : Instr.illegal_ED.wf = false := by decide
theorem test_wf_refuses_F4 : Instr.illegal_F4.wf = false := by decide
theorem test_wf_refuses_FC : Instr.illegal_FC.wf = false := by decide
theorem test_wf_refuses_FD : Instr.illegal_FD.wf = false := by decide

theorem test_wf_accepts : Instr.nop.wf = true ∧ (Instr.ld_b_n 0x42).wf = true ∧ Instr.set_7_atHL.wf = true := by decide

/-! ### Steps of spec/95_test_vectors.md -/

/-- The scenario convention of R335: registers zero, PC = 0x0100, SP = 0xFFFE, memory zero except as listed. -/
def start (mem : Memory) : State := { State.reset with sp := 0xFFFE, pc := 0x0100, mem := mem }

/-- One step answers a next state, and it passes the check. -/
def ends (s : State) (check : State → Bool) : Bool :=
  match step s with
  | .next t => check t
  | .fault _ => false
  | .refused _ => false

/-- One step ends with the illegal-opcode error for that byte, and the state left passes the check. -/
def endsIllegal (s : State) (b : Byte) (check : State → Bool) : Bool :=
  match step s with
  | .next _ => false
  | .fault (.illegalOpcode v t) => v == b && check t
  | .fault (.busError _ _) => false
  | .fault .notReset => false
  | .refused _ => false

/-- Scenario S1 (46_misc.md R280). -/
theorem test_s1_nop :
    ends (start [(0x0100, 0x00)]) (fun t => t.pc == 0x0101 && t.f == 0x00 && t.trace == [.read 0x0100 0x00]) = true := by
  decide

/-- Scenario S2 (R141). -/
theorem test_s2_ld_b_n :
    ends (start [(0x0100, 0x06), (0x0101, 0x42)]) (fun t => t.b == 0x42 && t.pc == 0x0102 && t.trace.length == 2) = true := by
  decide

/-- Scenario S3 (R193). -/
theorem test_s3_add_a_n :
    ends { start [(0x0100, 0xC6), (0x0101, 0x01)] with a := 0x0F }
      (fun t => t.a == 0x10 && t.f == 0x20 && t.pc == 0x0102 && t.trace.length == 2) = true := by decide

/-- Scenario S4 (R194). -/
theorem test_s4_adc_a_a :
    ends { start [(0x0100, 0x8F)] with a := 0x80, f := 0x10 }
      (fun t => t.a == 0x01 && t.f == 0x10 && t.pc == 0x0101 && t.trace.length == 1) = true := by decide

/-- Scenario S5, first step, held against its vector's `cycles` entries (R72, R175). -/
theorem test_s5_push_bc :
    ends { start [(0x0100, 0xC5), (0x0101, 0xD1)] with b := 0x12, c := 0x34 }
      (fun t => t.sp == 0xFFFC &&
        (t.trace.zip [(256, 197, "r-m"), (0, 0, "---"), (65533, 18, "-wm"), (65532, 52, "-wm")]).all
          (fun p => p.1.matchesEntry p.2.1 p.2.2.1 p.2.2.2) && t.trace.length == 4) = true := by decide

/-- Scenario S6, first step (R266). -/
theorem test_s6_call :
    ends (start [(0x0100, 0xCD), (0x0102, 0x02), (0x0200, 0xC9)])
      (fun t => t.pc == 0x0200 && t.sp == 0xFFFC && Memory.read t.mem 0xFFFD == 0x01 &&
        Memory.read t.mem 0xFFFC == 0x03 && t.trace.length == 6) = true := by decide

/-- LD B,C (R140). -/
theorem test_ld_b_c :
    ends ({ start [(0x0100, 0x41)] with c := 0x5A })
      (fun t => t.b == 0x5A && t.pc == 0x0101 && t.f == 0x00 && t.trace == [.read 0x0100 0x41]) = true := by decide

/-- LD H,(HL): address register overwritten (R142). -/
theorem test_ld_h_at_hl_address_register_overwritten :
    ends ({ start [(0x0100, 0x66), (0xC010, 0x99)] with h := 0xC0, l := 0x10 })
      (fun t => t.h == 0x99 && t.pc == 0x0101 && t.f == 0x00 && t.trace == [.read 0x0100 0x66, .read 0xC010 0x99]) = true := by decide

/-- LD (HL),L (R143). -/
theorem test_ld_at_hl_l :
    ends ({ start [(0x0100, 0x75)] with h := 0xC0, l := 0x10 })
      (fun t => t.pc == 0x0101 && t.f == 0x00 && Memory.read t.mem 0xC010 == 0x10 && t.trace == [.read 0x0100 0x75, .write 0xC010 0x10]) = true := by decide

/-- LD (HL),n (R144). -/
theorem test_ld_at_hl_n :
    ends ({ start [(0x0100, 0x36), (0x0101, 0xAB)] with h := 0xC0 })
      (fun t => t.pc == 0x0102 && t.f == 0x00 && Memory.read t.mem 0xC000 == 0xAB && t.trace == [.read 0x0100 0x36, .read 0x0101 0xAB, .write 0xC000 0xAB]) = true := by decide

/-- LD A,(BC) (R145). -/
theorem test_ld_a_at_bc :
    ends ({ start [(0x0100, 0x0A), (0xC123, 0x5E)] with b := 0xC1, c := 0x23 })
      (fun t => t.a == 0x5E && t.pc == 0x0101 && t.f == 0x00 && t.trace == [.read 0x0100 0x0A, .read 0xC123 0x5E]) = true := by decide

/-- LD A,(DE) (R146). -/
theorem test_ld_a_at_de :
    ends ({ start [(0x0100, 0x1A), (0xC124, 0x6F)] with d := 0xC1, e := 0x24 })
      (fun t => t.a == 0x6F && t.pc == 0x0101 && t.f == 0x00 && t.trace == [.read 0x0100 0x1A, .read 0xC124 0x6F]) = true := by decide

/-- LD A,(nn) (R147). -/
theorem test_ld_a_at_nn :
    ends (start [(0x0100, 0xFA), (0x0101, 0x45), (0x0102, 0xC3), (0xC345, 0x81)])
      (fun t => t.a == 0x81 && t.pc == 0x0103 && t.f == 0x00 && t.trace == [.read 0x0100 0xFA, .read 0x0101 0x45, .read 0x0102 0xC3, .read 0xC345 0x81]) = true := by decide

/-- LD (BC),A (R148). -/
theorem test_ld_at_bc_a :
    ends ({ start [(0x0100, 0x02)] with a := 0x11, b := 0xC0, c := 0x01 })
      (fun t => t.pc == 0x0101 && t.f == 0x00 && Memory.read t.mem 0xC001 == 0x11 && t.trace == [.read 0x0100 0x02, .write 0xC001 0x11]) = true := by decide

/-- LD (DE),A (R149). -/
theorem test_ld_at_de_a :
    ends ({ start [(0x0100, 0x12)] with a := 0x22, d := 0xC0, e := 0x02 })
      (fun t => t.pc == 0x0101 && t.f == 0x00 && Memory.read t.mem 0xC002 == 0x22 && t.trace == [.read 0x0100 0x12, .write 0xC002 0x22]) = true := by decide

/-- LD (nn),A (R150). -/
theorem test_ld_at_nn_a :
    ends ({ start [(0x0100, 0xEA), (0x0102, 0xD0)] with a := 0x33 })
      (fun t => t.pc == 0x0103 && t.f == 0x00 && Memory.read t.mem 0xD000 == 0x33 && t.trace == [.read 0x0100 0xEA, .read 0x0101 0x00, .read 0x0102 0xD0, .write 0xD000 0x33]) = true := by decide

/-- LD A,(HL+) at HL=FFFF (wrap) (R151). -/
theorem test_ld_a_hl_nc_at_hl_ffff_wrap :
    ends ({ start [(0x0100, 0x2A), (0xFFFF, 0x0E)] with h := 0xFF, l := 0xFF })
      (fun t => t.a == 0x0E && t.h == 0x00 && t.l == 0x00 && t.pc == 0x0101 && t.f == 0x00 && t.trace == [.read 0x0100 0x2A, .read 0xFFFF 0x0E]) = true := by decide

/-- LD A,(HL-) at HL=0000 (wrap) (R152). -/
theorem test_ld_a_hl_dec_at_hl_0000_wrap :
    ends (start [(0x0000, 0x3C), (0x0100, 0x3A)])
      (fun t => t.a == 0x3C && t.h == 0xFF && t.l == 0xFF && t.pc == 0x0101 && t.f == 0x00 && t.trace == [.read 0x0100 0x3A, .read 0x0000 0x3C]) = true := by decide

/-- LD (HL+),A (R153). -/
theorem test_ld_hl_nc_a :
    ends ({ start [(0x0100, 0x22)] with a := 0x44, h := 0xC0, l := 0xFF })
      (fun t => t.h == 0xC1 && t.l == 0x00 && t.pc == 0x0101 && t.f == 0x00 && Memory.read t.mem 0xC0FF == 0x44 && t.trace == [.read 0x0100 0x22, .write 0xC0FF 0x44]) = true := by decide

/-- LD (HL-),A (R154). -/
theorem test_ld_hl_dec_a :
    ends ({ start [(0x0100, 0x32)] with a := 0x55, h := 0xC1 })
      (fun t => t.h == 0xC0 && t.l == 0xFF && t.pc == 0x0101 && t.f == 0x00 && Memory.read t.mem 0xC100 == 0x55 && t.trace == [.read 0x0100 0x32, .write 0xC100 0x55]) = true := by decide

/-- LDH A,(n) (R155). -/
theorem test_ldh_a_at_n :
    ends (start [(0x0100, 0xF0), (0x0101, 0x44), (0xFF44, 0x90)])
      (fun t => t.a == 0x90 && t.pc == 0x0102 && t.f == 0x00 && t.trace == [.read 0x0100 0xF0, .read 0x0101 0x44, .read 0xFF44 0x90]) = true := by decide

/-- LDH (n),A (R156). -/
theorem test_ldh_at_n_a :
    ends ({ start [(0x0100, 0xE0), (0x0101, 0xFF)] with a := 0x80 })
      (fun t => t.pc == 0x0102 && t.f == 0x00 && Memory.read t.mem 0xFFFF == 0x80 && t.trace == [.read 0x0100 0xE0, .read 0x0101 0xFF, .write 0xFFFF 0x80]) = true := by decide

/-- LDH A,(C) (R157). -/
theorem test_ldh_a_at_c :
    ends ({ start [(0x0100, 0xF2), (0xFF80, 0x12)] with c := 0x80 })
      (fun t => t.a == 0x12 && t.pc == 0x0101 && t.f == 0x00 && t.trace == [.read 0x0100 0xF2, .read 0xFF80 0x12]) = true := by decide

/-- LDH (C),A (R158). -/
theorem test_ldh_at_c_a :
    ends ({ start [(0x0100, 0xE2)] with a := 0x34 })
      (fun t => t.pc == 0x0101 && t.f == 0x00 && Memory.read t.mem 0xFF00 == 0x34 && t.trace == [.read 0x0100 0xE2, .write 0xFF00 0x34]) = true := by decide

/-- LD BC,nn (R171). -/
theorem test_ld_bc_nn :
    ends (start [(0x0100, 0x01), (0x0101, 0x34), (0x0102, 0x12)])
      (fun t => t.b == 0x12 && t.c == 0x34 && t.pc == 0x0103 && t.f == 0x00 && t.trace == [.read 0x0100 0x01, .read 0x0101 0x34, .read 0x0102 0x12]) = true := by decide

/-- LD (nn),SP at nn=FFFF (wrap) (R172). -/
theorem test_ld_at_nn_sp_at_nn_ffff_wrap :
    ends ({ start [(0x0100, 0x08), (0x0101, 0xFF), (0x0102, 0xFF)] with sp := 0x1234 })
      (fun t => t.pc == 0x0103 && t.f == 0x00 && Memory.read t.mem 0x0000 == 0x12 && Memory.read t.mem 0xFFFF == 0x34 && t.trace == [.read 0x0100 0x08, .read 0x0101 0xFF, .read 0x0102 0xFF, .write 0xFFFF 0x34, .write 0x0000 0x12]) = true := by decide

/-- LD SP,HL (R173). -/
theorem test_ld_sp_hl :
    ends ({ start [(0x0100, 0xF9)] with h := 0xC0 })
      (fun t => t.sp == 0xC000 && t.pc == 0x0101 && t.f == 0x00 && t.trace == [.read 0x0100 0xF9, .internal]) = true := by decide

/-- LD HL,SP+e, e=-1, SP=0001 (R174). -/
theorem test_ld_hl_sppluse_e_minus_1_sp_0001 :
    ends ({ start [(0x0100, 0xF8), (0x0101, 0xFF)] with sp := 0x0001 })
      (fun t => t.f == 0x30 && t.h == 0x00 && t.l == 0x00 && t.pc == 0x0102 && t.trace == [.read 0x0100 0xF8, .read 0x0101 0xFF, .internal]) = true := by decide

/-- LD HL,SP+e, e=-128 (R174). -/
theorem test_ld_hl_sppluse_e_minus_128 :
    ends ({ start [(0x0100, 0xF8), (0x0101, 0x80)] with sp := 0x1000 })
      (fun t => t.h == 0x0F && t.l == 0x80 && t.pc == 0x0102 && t.f == 0x00 && t.trace == [.read 0x0100 0xF8, .read 0x0101 0x80, .internal]) = true := by decide

/-- PUSH AF (R175). -/
theorem test_push_af :
    ends ({ start [(0x0100, 0xF5)] with a := 0xAB, f := 0xF0 })
      (fun t => t.sp == 0xFFFC && t.pc == 0x0101 && t.f == 0xF0 && Memory.read t.mem 0xFFFC == 0xF0 && Memory.read t.mem 0xFFFD == 0xAB && t.trace == [.read 0x0100 0xF5, .internal, .write 0xFFFD 0xAB, .write 0xFFFC 0xF0]) = true := by decide

/-- PUSH DE at SP=0001 (wrap) (R175). -/
theorem test_push_de_at_sp_0001_wrap :
    ends ({ start [(0x0100, 0xD5)] with d := 0xDE, e := 0xAD, sp := 0x0001 })
      (fun t => t.sp == 0xFFFF && t.pc == 0x0101 && t.f == 0x00 && Memory.read t.mem 0x0000 == 0xDE && Memory.read t.mem 0xFFFF == 0xAD && t.trace == [.read 0x0100 0xD5, .internal, .write 0x0000 0xDE, .write 0xFFFF 0xAD]) = true := by decide

/-- POP AF masks F (R176). -/
theorem test_pop_af_masks_f :
    ends ({ start [(0x0100, 0xF1), (0xFFFC, 0xFF), (0xFFFD, 0x12)] with sp := 0xFFFC })
      (fun t => t.a == 0x12 && t.f == 0xF0 && t.sp == 0xFFFE && t.pc == 0x0101 && t.trace == [.read 0x0100 0xF1, .read 0xFFFC 0xFF, .read 0xFFFD 0x12]) = true := by decide

/-- POP BC at SP=FFFF (wrap) (R176). -/
theorem test_pop_bc_at_sp_ffff_wrap :
    ends ({ start [(0x0000, 0x02), (0x0200, 0xC1), (0xFFFF, 0x01)] with sp := 0xFFFF, pc := 0x0200 })
      (fun t => t.b == 0x02 && t.c == 0x01 && t.sp == 0x0001 && t.pc == 0x0201 && t.f == 0x00 && t.trace == [.read 0x0200 0xC1, .read 0xFFFF 0x01, .read 0x0000 0x02]) = true := by decide

/-- ADD A,B: to zero with carry (R193). -/
theorem test_add_a_b_to_zero_with_carry :
    ends ({ start [(0x0100, 0x80)] with a := 0xFF, b := 0x01 })
      (fun t => t.a == 0x00 && t.f == 0xB0 && t.pc == 0x0101 && t.trace == [.read 0x0100 0x80]) = true := by decide

/-- ADD A,(HL) (R193). -/
theorem test_add_a_at_hl :
    ends ({ start [(0x0100, 0x86), (0xC000, 0xC6)] with a := 0x3A, h := 0xC0 })
      (fun t => t.a == 0x00 && t.f == 0xB0 && t.pc == 0x0101 && t.trace == [.read 0x0100 0x86, .read 0xC000 0xC6]) = true := by decide

/-- ADC A,n: carry in makes 0x100 (R194). -/
theorem test_adc_a_n_carry_in_makes_0x100 :
    ends ({ start [(0x0100, 0xCE)] with a := 0xFF, f := 0x10 })
      (fun t => t.a == 0x00 && t.f == 0xB0 && t.pc == 0x0102 && t.trace == [.read 0x0100 0xCE, .read 0x0101 0x00]) = true := by decide

/-- SUB A,n half-borrow (R195). -/
theorem test_sub_a_n_half_minus_borrow :
    ends ({ start [(0x0100, 0xD6), (0x0101, 0x01)] with a := 0x10 })
      (fun t => t.a == 0x0F && t.f == 0x60 && t.pc == 0x0102 && t.trace == [.read 0x0100 0xD6, .read 0x0101 0x01]) = true := by decide

/-- SBC A,n: 0 - 0 - 1 (R196). -/
theorem test_sbc_a_n_0_minus_0_minus_1 :
    ends ({ start [(0x0100, 0xDE)] with f := 0x10 })
      (fun t => t.a == 0xFF && t.f == 0x70 && t.pc == 0x0102 && t.trace == [.read 0x0100 0xDE, .read 0x0101 0x00]) = true := by decide

/-- SBC A,A with carry (R196). -/
theorem test_sbc_a_a_with_carry :
    ends ({ start [(0x0100, 0x9F)] with a := 0x55, f := 0x10 })
      (fun t => t.a == 0xFF && t.f == 0x70 && t.pc == 0x0101 && t.trace == [.read 0x0100 0x9F]) = true := by decide

/-- AND A,n to zero (R197). -/
theorem test_and_a_n_to_zero :
    ends ({ start [(0x0100, 0xE6), (0x0101, 0xA5)] with a := 0x5A, f := 0x10 })
      (fun t => t.a == 0x00 && t.f == 0xA0 && t.pc == 0x0102 && t.trace == [.read 0x0100 0xE6, .read 0x0101 0xA5]) = true := by decide

/-- XOR A,A (R198). -/
theorem test_xor_a_a :
    ends ({ start [(0x0100, 0xAF)] with a := 0xFF, f := 0x70 })
      (fun t => t.a == 0x00 && t.f == 0x80 && t.pc == 0x0101 && t.trace == [.read 0x0100 0xAF]) = true := by decide

/-- OR A,(HL) (R199). -/
theorem test_or_a_at_hl :
    ends ({ start [(0x0100, 0xB6), (0xC000, 0x0F)] with a := 0x5A, h := 0xC0 })
      (fun t => t.a == 0x5F && t.pc == 0x0101 && t.f == 0x00 && t.trace == [.read 0x0100 0xB6, .read 0xC000 0x0F]) = true := by decide

/-- CP A,n less (R200). -/
theorem test_cp_a_n_less :
    ends ({ start [(0x0100, 0xFE), (0x0101, 0x40)] with a := 0x3C })
      (fun t => t.f == 0x50 && t.pc == 0x0102 && t.trace == [.read 0x0100 0xFE, .read 0x0101 0x40]) = true := by decide

/-- INC A from FF (R201). -/
theorem test_inc_a_from_ff :
    ends ({ start [(0x0100, 0x3C)] with a := 0xFF, f := 0x10 })
      (fun t => t.a == 0x00 && t.f == 0xB0 && t.pc == 0x0101 && t.trace == [.read 0x0100 0x3C]) = true := by decide

/-- INC (HL) (R202). -/
theorem test_inc_at_hl :
    ends ({ start [(0x0100, 0x34), (0xC000, 0x7F)] with h := 0xC0 })
      (fun t => t.f == 0x20 && t.pc == 0x0101 && Memory.read t.mem 0xC000 == 0x80 && t.trace == [.read 0x0100 0x34, .read 0xC000 0x7F, .write 0xC000 0x80]) = true := by decide

/-- DEC D from 00 (R203). -/
theorem test_dec_d_from_00 :
    ends ({ start [(0x0100, 0x15)] with f := 0x10 })
      (fun t => t.d == 0xFF && t.f == 0x70 && t.pc == 0x0101 && t.trace == [.read 0x0100 0x15]) = true := by decide

/-- DEC (HL) (R204). -/
theorem test_dec_at_hl :
    ends ({ start [(0x0100, 0x35)] with h := 0xC0 })
      (fun t => t.f == 0x60 && t.pc == 0x0101 && Memory.read t.mem 0xC000 == 0xFF && t.trace == [.read 0x0100 0x35, .read 0xC000 0x00, .write 0xC000 0xFF]) = true := by decide

/-- INC HL from FFFF (R220). -/
theorem test_inc_hl_from_ffff :
    ends ({ start [(0x0100, 0x23)] with h := 0xFF, l := 0xFF })
      (fun t => t.h == 0x00 && t.l == 0x00 && t.pc == 0x0101 && t.f == 0x00 && t.trace == [.read 0x0100 0x23, .internal]) = true := by decide

/-- DEC DE from 0000 (R221). -/
theorem test_dec_de_from_0000 :
    ends ({ start [(0x0100, 0x1B)] with f := 0x80 })
      (fun t => t.d == 0xFF && t.e == 0xFF && t.pc == 0x0101 && t.f == 0x80 && t.trace == [.read 0x0100 0x1B, .internal]) = true := by decide

/-- ADD HL,BC: half-carry (R222). -/
theorem test_add_hl_bc_half_minus_carry :
    ends ({ start [(0x0100, 0x09)] with b := 0x06, c := 0x05, h := 0x8A, l := 0x23 })
      (fun t => t.f == 0x20 && t.h == 0x90 && t.l == 0x28 && t.pc == 0x0101 && t.trace == [.read 0x0100 0x09, .internal]) = true := by decide

/-- ADD HL,HL: carry, Z kept (R222). -/
theorem test_add_hl_hl_carry_z_kept :
    ends ({ start [(0x0100, 0x29)] with f := 0x80, h := 0x80 })
      (fun t => t.f == 0x90 && t.h == 0x00 && t.pc == 0x0101 && t.trace == [.read 0x0100 0x29, .internal]) = true := by decide

/-- ADD SP,e, e=-1, SP=0001 (R223). -/
theorem test_add_sp_e_e_minus_1_sp_0001 :
    ends ({ start [(0x0100, 0xE8), (0x0101, 0xFF)] with sp := 0x0001 })
      (fun t => t.f == 0x30 && t.sp == 0x0000 && t.pc == 0x0102 && t.trace == [.read 0x0100 0xE8, .read 0x0101 0xFF, .internal, .internal]) = true := by decide

/-- ADD SP,e, e=-1, SP=0100 (R223). -/
theorem test_add_sp_e_e_minus_1_sp_0100 :
    ends ({ start [(0x0100, 0xE8), (0x0101, 0xFF)] with sp := 0x0100 })
      (fun t => t.sp == 0x00FF && t.pc == 0x0102 && t.f == 0x00 && t.trace == [.read 0x0100 0xE8, .read 0x0101 0xFF, .internal, .internal]) = true := by decide

/-- RLCA of 80 (R230). -/
theorem test_rlca_of_80 :
    ends ({ start [(0x0100, 0x07)] with a := 0x80, f := 0x80 })
      (fun t => t.a == 0x01 && t.f == 0x10 && t.pc == 0x0101 && t.trace == [.read 0x0100 0x07]) = true := by decide

/-- RRCA of 01 (R231). -/
theorem test_rrca_of_01 :
    ends ({ start [(0x0100, 0x0F)] with a := 0x01 })
      (fun t => t.a == 0x80 && t.f == 0x10 && t.pc == 0x0101 && t.trace == [.read 0x0100 0x0F]) = true := by decide

/-- RLA with C=1 (R232). -/
theorem test_rla_with_c_1 :
    ends ({ start [(0x0100, 0x17)] with a := 0x95, f := 0x10 })
      (fun t => t.a == 0x2B && t.pc == 0x0101 && t.f == 0x10 && t.trace == [.read 0x0100 0x17]) = true := by decide

/-- RRA with C=1 (R233). -/
theorem test_rra_with_c_1 :
    ends ({ start [(0x0100, 0x1F)] with a := 0x81, f := 0x10 })
      (fun t => t.a == 0xC0 && t.pc == 0x0101 && t.f == 0x10 && t.trace == [.read 0x0100 0x1F]) = true := by decide

/-- RLC B (R235). -/
theorem test_rlc_b :
    ends ({ start [(0x0100, 0xCB)] with b := 0x85 })
      (fun t => t.b == 0x0B && t.f == 0x10 && t.pc == 0x0102 && t.trace == [.read 0x0100 0xCB, .read 0x0101 0x00]) = true := by decide

/-- RLC (HL) of 00: Z=1 (R235). -/
theorem test_rlc_at_hl_of_00_z_1 :
    ends ({ start [(0x0100, 0xCB), (0x0101, 0x06)] with h := 0xC0 })
      (fun t => t.f == 0x80 && t.pc == 0x0102 && t.trace == [.read 0x0100 0xCB, .read 0x0101 0x06, .read 0xC000 0x00, .write 0xC000 0x00]) = true := by decide

/-- RRC C (R236). -/
theorem test_rrc_c :
    ends ({ start [(0x0100, 0xCB), (0x0101, 0x09)] with c := 0x01 })
      (fun t => t.c == 0x80 && t.f == 0x10 && t.pc == 0x0102 && t.trace == [.read 0x0100 0xCB, .read 0x0101 0x09]) = true := by decide

/-- RL D with C=0, D=80 (R237). -/
theorem test_rl_d_with_c_0_d_80 :
    ends ({ start [(0x0100, 0xCB), (0x0101, 0x12)] with d := 0x80 })
      (fun t => t.d == 0x00 && t.f == 0x90 && t.pc == 0x0102 && t.trace == [.read 0x0100 0xCB, .read 0x0101 0x12]) = true := by decide

/-- RR E with C=1 (R238). -/
theorem test_rr_e_with_c_1 :
    ends ({ start [(0x0100, 0xCB), (0x0101, 0x1B)] with f := 0x10 })
      (fun t => t.e == 0x80 && t.f == 0x00 && t.pc == 0x0102 && t.trace == [.read 0x0100 0xCB, .read 0x0101 0x1B]) = true := by decide

/-- SLA H of 80 (R239). -/
theorem test_sla_h_of_80 :
    ends ({ start [(0x0100, 0xCB), (0x0101, 0x24)] with h := 0x80 })
      (fun t => t.f == 0x90 && t.h == 0x00 && t.pc == 0x0102 && t.trace == [.read 0x0100 0xCB, .read 0x0101 0x24]) = true := by decide

/-- SRA (HL) of 01 (R240). -/
theorem test_sra_at_hl_of_01 :
    ends ({ start [(0x0100, 0xCB), (0x0101, 0x2E), (0xC000, 0x01)] with h := 0xC0 })
      (fun t => t.f == 0x90 && t.pc == 0x0102 && Memory.read t.mem 0xC000 == 0x00 && t.trace == [.read 0x0100 0xCB, .read 0x0101 0x2E, .read 0xC000 0x01, .write 0xC000 0x00]) = true := by decide

/-- SWAP A of F1 (R241). -/
theorem test_swap_a_of_f1 :
    ends ({ start [(0x0100, 0xCB), (0x0101, 0x37)] with a := 0xF1, f := 0x10 })
      (fun t => t.a == 0x1F && t.f == 0x00 && t.pc == 0x0102 && t.trace == [.read 0x0100 0xCB, .read 0x0101 0x37]) = true := by decide

/-- SRL C of FF (R242). -/
theorem test_srl_c_of_ff :
    ends ({ start [(0x0100, 0xCB), (0x0101, 0x39)] with c := 0xFF })
      (fun t => t.c == 0x7F && t.f == 0x10 && t.pc == 0x0102 && t.trace == [.read 0x0100 0xCB, .read 0x0101 0x39]) = true := by decide

/-- BIT 7,H with H=80 (R243). -/
theorem test_bit_7_h_with_h_80 :
    ends ({ start [(0x0100, 0xCB), (0x0101, 0x7C)] with f := 0x10, h := 0x80 })
      (fun t => t.f == 0x30 && t.pc == 0x0102 && t.trace == [.read 0x0100 0xCB, .read 0x0101 0x7C]) = true := by decide

/-- BIT 3,(HL): 3 ticks, no write (R243). -/
theorem test_bit_3_at_hl_3_ticks_no_write :
    ends ({ start [(0x0100, 0xCB), (0x0101, 0x5E), (0xC000, 0x08)] with h := 0xC0 })
      (fun t => t.f == 0x20 && t.pc == 0x0102 && t.trace == [.read 0x0100 0xCB, .read 0x0101 0x5E, .read 0xC000 0x08]) = true := by decide

/-- RES 0,A (R244). -/
theorem test_res_0_a :
    ends ({ start [(0x0100, 0xCB), (0x0101, 0x87)] with a := 0xFF, f := 0xB0 })
      (fun t => t.a == 0xFE && t.pc == 0x0102 && t.f == 0xB0 && t.trace == [.read 0x0100 0xCB, .read 0x0101 0x87]) = true := by decide

/-- RES 7,(HL) (R244). -/
theorem test_res_7_at_hl :
    ends ({ start [(0x0100, 0xCB), (0x0101, 0xBE), (0xC000, 0x80)] with h := 0xC0 })
      (fun t => t.pc == 0x0102 && t.f == 0x00 && Memory.read t.mem 0xC000 == 0x00 && t.trace == [.read 0x0100 0xCB, .read 0x0101 0xBE, .read 0xC000 0x80, .write 0xC000 0x00]) = true := by decide

/-- SET 7,B (R245). -/
theorem test_set_7_b :
    ends (start [(0x0100, 0xCB), (0x0101, 0xF8)])
      (fun t => t.b == 0x80 && t.pc == 0x0102 && t.f == 0x00 && t.trace == [.read 0x0100 0xCB, .read 0x0101 0xF8]) = true := by decide

/-- SET 0,(HL), bit already set: still written (R245). -/
theorem test_set_0_at_hl_bit_already_set_still_written :
    ends ({ start [(0x0100, 0xCB), (0x0101, 0xC6), (0xC000, 0x01)] with h := 0xC0 })
      (fun t => t.pc == 0x0102 && t.f == 0x00 && t.trace == [.read 0x0100 0xCB, .read 0x0101 0xC6, .read 0xC000 0x01, .write 0xC000 0x01]) = true := by decide

/-- JR wrap at FFF0 (R261). -/
theorem test_jr_wrap_at_fff0 :
    ends ({ start [(0xFFF0, 0x18), (0xFFF1, 0x7F)] with pc := 0xFFF0 })
      (fun t => t.pc == 0x0071 && t.f == 0x00 && t.trace == [.read 0xFFF0 0x18, .read 0xFFF1 0x7F, .internal]) = true := by decide

/-- JR NZ taken (R262). -/
theorem test_jr_nz_taken :
    ends ({ start [(0x0105, 0x20), (0x0106, 0xFC)] with pc := 0x0105 })
      (fun t => t.pc == 0x0103 && t.f == 0x00 && t.trace == [.read 0x0105 0x20, .read 0x0106 0xFC, .internal]) = true := by decide

/-- JR NC not taken (R262). -/
theorem test_jr_nc_not_taken :
    ends ({ start [(0x0100, 0x30), (0x0101, 0x10)] with f := 0x10 })
      (fun t => t.pc == 0x0102 && t.f == 0x10 && t.trace == [.read 0x0100 0x30, .read 0x0101 0x10]) = true := by decide

/-- JP nn (R263). -/
theorem test_jp_nn :
    ends (start [(0x0100, 0xC3), (0x0101, 0x50), (0x0102, 0x01)])
      (fun t => t.pc == 0x0150 && t.f == 0x00 && t.trace == [.read 0x0100 0xC3, .read 0x0101 0x50, .read 0x0102 0x01, .internal]) = true := by decide

/-- JP C,nn taken (R264). -/
theorem test_jp_c_nn_taken :
    ends ({ start [(0x0100, 0xDA), (0x0102, 0x02)] with f := 0x10 })
      (fun t => t.pc == 0x0200 && t.f == 0x10 && t.trace == [.read 0x0100 0xDA, .read 0x0101 0x00, .read 0x0102 0x02, .internal]) = true := by decide

/-- JP HL (R265). -/
theorem test_jp_hl :
    ends ({ start [(0x0100, 0xE9)] with h := 0x40 })
      (fun t => t.pc == 0x4000 && t.f == 0x00 && t.trace == [.read 0x0100 0xE9]) = true := by decide

/-- CALL NZ,nn not taken (R267). -/
theorem test_call_nz_nn_not_taken :
    ends ({ start [(0x0100, 0xC4), (0x0102, 0x02)] with f := 0x80 })
      (fun t => t.pc == 0x0103 && t.f == 0x80 && t.trace == [.read 0x0100 0xC4, .read 0x0101 0x00, .read 0x0102 0x02]) = true := by decide

/-- CALL Z,nn taken (R267). -/
theorem test_call_z_nn_taken :
    ends ({ start [(0x0100, 0xCC), (0x0101, 0x34), (0x0102, 0x12)] with f := 0x80 })
      (fun t => t.sp == 0xFFFC && t.pc == 0x1234 && t.f == 0x80 && Memory.read t.mem 0xFFFC == 0x03 && Memory.read t.mem 0xFFFD == 0x01 && t.trace == [.read 0x0100 0xCC, .read 0x0101 0x34, .read 0x0102 0x12, .internal, .write 0xFFFD 0x01, .write 0xFFFC 0x03]) = true := by decide

/-- RET (R268). -/
theorem test_ret :
    ends ({ start [(0x0200, 0xC9), (0xFFFC, 0x03), (0xFFFD, 0x01)] with sp := 0xFFFC, pc := 0x0200 })
      (fun t => t.sp == 0xFFFE && t.pc == 0x0103 && t.f == 0x00 && t.trace == [.read 0x0200 0xC9, .read 0xFFFC 0x03, .read 0xFFFD 0x01, .internal]) = true := by decide

/-- RET NC taken (R269). -/
theorem test_ret_nc_taken :
    ends ({ start [(0x0200, 0xD0), (0xFFFC, 0x03), (0xFFFD, 0x01)] with sp := 0xFFFC, pc := 0x0200 })
      (fun t => t.sp == 0xFFFE && t.pc == 0x0103 && t.f == 0x00 && t.trace == [.read 0x0200 0xD0, .internal, .read 0xFFFC 0x03, .read 0xFFFD 0x01, .internal]) = true := by decide

/-- RET Z not taken (R269). -/
theorem test_ret_z_not_taken :
    ends ({ start [(0x0200, 0xC8), (0xFFFC, 0x03), (0xFFFD, 0x01)] with sp := 0xFFFC, pc := 0x0200 })
      (fun t => t.pc == 0x0201 && t.f == 0x00 && t.trace == [.read 0x0200 0xC8, .internal]) = true := by decide

/-- RETI (R270). -/
theorem test_reti :
    ends ({ start [(0x0200, 0xD9), (0xFFFC, 0x03), (0xFFFD, 0x01)] with sp := 0xFFFC, pc := 0x0200 })
      (fun t => t.sp == 0xFFFE && t.pc == 0x0103 && t.f == 0x00 && t.trace == [.read 0x0200 0xD9, .read 0xFFFC 0x03, .read 0xFFFD 0x01, .internal]) = true := by decide

/-- RST 38 at SP=0001 (R271). -/
theorem test_rst_38_at_sp_0001 :
    ends ({ start [(0x0150, 0xFF)] with sp := 0x0001, pc := 0x0150 })
      (fun t => t.sp == 0xFFFF && t.pc == 0x0038 && t.f == 0x00 && Memory.read t.mem 0x0000 == 0x01 && Memory.read t.mem 0xFFFF == 0x51 && t.trace == [.read 0x0150 0xFF, .internal, .write 0x0000 0x01, .write 0xFFFF 0x51]) = true := by decide

/-- DAA after 99+99 (32, H=1, C=1) (R281). -/
theorem test_daa_after_99plus99_32_h_1_c_1 :
    ends ({ start [(0x0100, 0x27)] with a := 0x32, f := 0x30 })
      (fun t => t.a == 0x98 && t.f == 0x10 && t.pc == 0x0101 && t.trace == [.read 0x0100 0x27]) = true := by decide

/-- DAA, N=0 C=0 H=1 A=95 (D11 corner) (R281). -/
theorem test_daa_n_0_c_0_h_1_a_95_d11_corner :
    ends ({ start [(0x0100, 0x27)] with a := 0x95, f := 0x20 })
      (fun t => t.a == 0x9B && t.f == 0x00 && t.pc == 0x0101 && t.trace == [.read 0x0100 0x27]) = true := by decide

/-- CPL (R282). -/
theorem test_cpl :
    ends ({ start [(0x0100, 0x2F)] with a := 0x35 })
      (fun t => t.a == 0xCA && t.f == 0x60 && t.pc == 0x0101 && t.trace == [.read 0x0100 0x2F]) = true := by decide

/-- SCF (R283). -/
theorem test_scf :
    ends ({ start [(0x0100, 0x37)] with f := 0xE0 })
      (fun t => t.f == 0x90 && t.pc == 0x0101 && t.trace == [.read 0x0100 0x37]) = true := by decide

/-- CCF with C=1 (R284). -/
theorem test_ccf_with_c_1 :
    ends ({ start [(0x0100, 0x3F)] with f := 0x70 })
      (fun t => t.f == 0x00 && t.pc == 0x0101 && t.trace == [.read 0x0100 0x3F]) = true := by decide

/-- DI (R285). -/
theorem test_di :
    ends (start [(0x0100, 0xF3)])
      (fun t => t.pc == 0x0101 && t.f == 0x00 && t.trace == [.read 0x0100 0xF3]) = true := by decide

/-- EI (R286). -/
theorem test_ei :
    ends (start [(0x0100, 0xFB)])
      (fun t => t.pc == 0x0101 && t.f == 0x00 && t.trace == [.read 0x0100 0xFB]) = true := by decide

/-- HALT (R287). -/
theorem test_halt :
    ends (start [(0x0100, 0x76)])
      (fun t => t.pc == 0x0101 && t.f == 0x00 && t.trace == [.read 0x0100 0x76, .internal, .internal]) = true := by decide

/-- STOP (1 byte) (R288). -/
theorem test_stop_1_byte :
    ends (start [(0x0100, 0x10)])
      (fun t => t.pc == 0x0101 && t.f == 0x00 && t.trace == [.read 0x0100 0x10, .internal, .internal]) = true := by decide

/-- Illegal D3 (R300): A = 12, F = 50; the error carries the byte, PC = 0101. -/
theorem test_illegal_D3 :
    endsIllegal { start [(0x0100, 0xD3)] with a := 0x12, f := 0x50 } 0xD3
      (fun t => t.pc == 0x0101 && t.a == 0x12 && t.f == 0x50 && t.trace == [.read 0x0100 0xD3] &&
        t.errors == [.illegalOpcode 0xD3]) = true := by decide

/-- Illegal FD (R300). -/
theorem test_illegal_FD :
    endsIllegal { start [(0x0100, 0xFD)] with a := 0x12, f := 0x50 } 0xFD
      (fun t => t.pc == 0x0101 && t.f == 0x50 && t.trace == [.read 0x0100 0xFD]) = true := by decide

/-- The host may step on after an error (R301): program P5 goes on with INC A at 0x0104, the error still recorded. -/
theorem test_step_on_after_error :
    ends { start [(0x0103, 0xD3), (0x0104, 0x3C)] with a := 0x02, pc := 0x0104, errors := [.illegalOpcode 0xD3] }
      (fun t => t.a == 0x03 && t.pc == 0x0105 && t.errors == [.illegalOpcode 0xD3]) = true := by decide

/-- An installed callback sees the ticks of scenario S2; with none installed nothing is observed (R68). -/
theorem test_callback_observes :
    ends (start [(0x0100, 0x06), (0x0101, 0x42)]).installCallback
      (fun t => t.observed == [.read 0x0100 0x06, .read 0x0101 0x42]) = true ∧
    ends (start [(0x0100, 0x06), (0x0101, 0x42)]) (fun t => t.observed == []) = true := by decide

/-! ### The assembler spelling (30_encoding.md section 6) -/

theorem test_asm : Instr.ld_a_atHLInc.asm = some "LD A,(HL+)" ∧ Instr.rst_28.asm = some "RST 0x28" ∧
    (Instr.ld_hl_spPlusE 0x08).asm = some "LD HL,SP+e" ∧ (Instr.cp_a_n 0x00).asm = some "CP A,n" := by decide

/-- The file names R115 gives. -/
theorem test_vectorFile : Instr.adc_a_a.vectorFile = "8f.json" ∧ Instr.swap_a.vectorFile = "cb 37.json" := by decide

/-! ### Placing an instruction where the next step fetches it (log entry 26) -/

theorem test_withFetchWord :
    ends (State.reset.withFetchWord 16 0xCB37) (fun t => t.pc == 0x0002 && t.f == 0x80) = true ∧
    ends (State.reset.withFetchWord 8 0b00000110) (fun t => t.pc == 0x0002 && t.b == 0x00) = true := by decide

/-! ### Witnesses: the hypotheses of each statement are met together -/

/-- A flat-RAM state of a run: HL in RAM, flags mixed, the stack near its wrap. -/
def demo : State := { start [(0xC000, 0x80)] with a := 0x99, f := 0x50, h := 0xC0, sp := 0x0001 }

/-- A core bound to an external bus that does not fault, and one bound to a bus that may. -/
def demoExternal (mayFault : Bool) : State := { demo with bus := .external mayFault }

theorem witness_StepBeforeResetFaults : (State.construct .flatRam []).wasReset = false := by decide

theorem witness_ResetLeavesLegalState : Memory.wf demo.mem ∧ demo.mem ≠ [] := by decide

theorem witness_FlatRamReadAfterWrite : demo.bus = .flatRam ∧ demo.busValue 0xC000 = 0x80 ∧ demo.busValue 0xFFFF = 0x00 := by
  decide

theorem witness_EachAccessEmitsOneTick : demo.busMayFault = false ∧ (demoExternal false).busMayFault = false := by decide

theorem witness_BusErrorEndsTheStep : (demoExternal true).busMayFault = true := by decide

theorem witness_EncodeOfDecodeIsTheBytes : decode [0xCD, 0xFF, 0xFF, 0x01] = .ok (.call_nn 0xFFFF, [0x01]) := by rfl

theorem witness_DecoderIsTotal : opLength 0xCD ≤ [(0x00 : Byte), 0x02].length + 1 ∧ opLength 0x00 ≤ ([] : List Byte).length + 1 := by
  decide

theorem witness_IllegalBytesAreTheEleven :
    decode [0xD3, 0xFF, 0x00] = .ok (.illegal_D3, [0xFF, 0x00]) ∧ Instr.illegal_D3.wf = false ∧
    decode [0xD4, 0xFF, 0x00] = .ok (.call_nc_nn 0x00FF, []) := ⟨rfl, rfl, rfl⟩

theorem witness_StepRunsDecodedInstruction :
    demo.wasReset = true ∧ demo.busMayFault = false ∧
    decode (demo.beginStep.fetchedBytes (opLength (demo.busValue demo.pc))) = .ok (.nop, []) := ⟨rfl, rfl, rfl⟩

theorem witness_FetchReadsProgramBytesInOrder :
    { demo with pc := 0xFFFF }.bus = .flatRam ∧ State.fetchedBytes 2 { demo with pc := 0xFFFF } = [0x00, 0x00] := by decide

theorem witness_IllegalInstructionRaisesError : Instr.illegal_FD.form = .illegal 0xFD := by rfl

/-- A state about to run an illegal byte. -/
def demoIllegal : State := { demo with mem := [(0x0100, 0xD3)] }

theorem witness_IllegalOpcodeEndsStep :
    demoIllegal.wasReset = true ∧ demoIllegal.busMayFault = false ∧ demoIllegal.busValue demoIllegal.pc = 0xD3 ∧
    (0xD3 : Byte) ∈ [0xD3, 0xDB, 0xDD, 0xE3, 0xE4, 0xEB, 0xEC, 0xED, 0xF4, 0xFC, 0xFD] := by decide

theorem witness_LegalStateKeptByEveryStep : demo.Legal ∧ ∃ t, step demo = .next t :=
  ⟨⟨by decide, by decide, by decide⟩, _, rfl⟩

theorem witness_ErrorLeavesLegalState :
    demoIllegal.Legal ∧ ∃ r t, step demoIllegal = .fault r ∧ r.stateLeft = some t :=
  ⟨⟨by decide, by decide, by decide⟩, _, _, rfl, rfl⟩

theorem witness_CallbackSeesEveryTick :
    (∃ t, step demo.installCallback = .next t) ∧ ∃ t, step demo.clearCallback = .next t := ⟨⟨_, rfl⟩, ⟨_, rfl⟩⟩

theorem witness_CallbackDoesNotInterfere : ∃ t, step demo.installCallback = .next t := ⟨_, rfl⟩

theorem witness_StepTicksFollowTimingTable :
    demo.wasReset = true ∧ demo.busMayFault = false ∧ Instr.nop.wf = true ∧
    decode (demo.beginStep.fetchedBytes (opLength (demo.busValue demo.pc))) = .ok (.nop, []) := ⟨rfl, rfl, rfl, rfl⟩

theorem witness_OnlyListedRegistersChange : ∃ t, exec .pop_af demo = .next t := ⟨_, rfl⟩

theorem witness_OnlyStoredBytesChange : ∃ t, exec (.ld_atNN_sp 0xFFFF) demo = .next t := ⟨_, rfl⟩

theorem witness_FlagEffectsFollowTable :
    (∃ t, exec .pop_af demo = .next t) ∧ (∃ t, exec .pop_bc demo = .next t) ∧
    ∀ x : Flag, Instr.pop_bc.form.flagEffect x = .preserved := ⟨⟨_, rfl⟩, ⟨_, rfl⟩, fun x => by cases x <;> rfl⟩

theorem witness_BusWritesGoToStoreAddresses : ∃ t, exec (.call_c_nn 0x1234) demo = .next t := ⟨_, rfl⟩

theorem witness_LdRegRegCopies : Instr.ld_a_b.form = .ldRR .a .b ∧ Instr.ld_l_l.form = .ldRR .l .l := ⟨rfl, rfl⟩

theorem witness_LdRegImmLoads : (Instr.ld_b_n 0xFF).form = .ldRN .b 0xFF := rfl

theorem witness_LdRegAtHLLoads : Instr.ld_h_atHL.form = .ldRAtHL .h ∧ demo.busMayFault = false := ⟨rfl, rfl⟩

theorem witness_StoreAtHLWritesByte : Instr.ld_atHL_l.form = .ldAtHLR .l ∧ demo.busMayFault = false := ⟨rfl, rfl⟩

theorem witness_LdAIndirectLoads : demo.busMayFault = false := rfl

theorem witness_StoreAIndirectWrites : demo.busMayFault = false := rfl

theorem witness_HLStepLoadsAndStores :
    demo.busMayFault = false ∧ (demo.setHL 0xFFFF).busMayFault = false ∧ (demo.setHL 0x0000).busMayFault = false :=
  ⟨rfl, rfl, rfl⟩

theorem witness_HighPageLoadsAndStores : demo.busMayFault = false ∧ highPage 0xFF = 0xFFFF := ⟨rfl, by decide⟩

theorem witness_LdPairImmLoads : (Instr.ld_sp_nn 0xFFFF).form = .ldRRNN .sp 0xFFFF := rfl

theorem witness_StoreSPWritesLowThenHigh : demo.busMayFault = false ∧ (0xFFFF + 1 : Word) = 0 := ⟨rfl, by decide⟩

theorem witness_PushWritesHighThenLow : Instr.push_af.form = .push .af ∧ demo.busMayFault = false ∧ demo.sp - 2 = 0xFFFF :=
  ⟨rfl, rfl, by decide⟩

theorem witness_PopReadsLowThenHigh :
    Instr.pop_af.form = .pop .af ∧ Instr.pop_hl.form = .pop .hl ∧ StackPair.hl ≠ .af ∧ demo.busMayFault = false :=
  ⟨rfl, rfl, by decide, rfl⟩

theorem witness_PushPopAndCallReturnRestore :
    Instr.push_af.form = .push .af ∧ Instr.pop_af.form = .pop .af ∧ demo.bus = .flatRam ∧ demo.f &&& 0x0F = 0 :=
  ⟨rfl, rfl, rfl, by decide⟩

theorem witness_AddAdcResultAndFlags :
    Instr.adc_a_atHL.form = .alu .adc .atHL ∧ (Instr.add_a_n 0xFF).form = .alu .add (.imm 0xFF) ∧
    demo.busMayFault = false ∧ demo.flag .c = true := ⟨rfl, rfl, rfl, by decide⟩

theorem witness_SubSbcCpResultAndFlags :
    Instr.sub_a_b.form = .alu .sub (.reg .b) ∧ Instr.sbc_a_a.form = .alu .sbc (.reg .a) ∧
    (Instr.cp_a_n 0x00).form = .alu .cp (.imm 0x00) ∧ demo.busMayFault = false := ⟨rfl, rfl, rfl, rfl⟩

theorem witness_LogicResultAndFlags :
    Instr.and_a_b.form = .alu .and (.reg .b) ∧ Instr.xor_a_a.form = .alu .xor (.reg .a) ∧
    Instr.or_a_atHL.form = .alu .or .atHL ∧ demo.busMayFault = false := ⟨rfl, rfl, rfl, rfl⟩

theorem witness_IncDecRegister : Instr.inc_a.form = .incR .a ∧ Instr.dec_l.form = .decR .l := ⟨rfl, rfl⟩

theorem witness_IncDecMemory : demo.busMayFault = false := rfl

theorem witness_IncDecPair : Instr.inc_sp.form = .incRR .sp ∧ Instr.dec_bc.form = .decRR .bc := ⟨rfl, rfl⟩

theorem witness_AddHLPairResultAndFlags : Instr.add_hl_hl.form = .addHLRR .hl := rfl

theorem witness_AccRotatesResultAndFlags :
    Instr.rlca.form = .rotA .rlca ∧ Instr.rrca.form = .rotA .rrca ∧ Instr.rla.form = .rotA .rla ∧
    Instr.rra.form = .rotA .rra := ⟨rfl, rfl, rfl, rfl⟩

theorem witness_CbRotatesResultAndFlags :
    Instr.rlc_b.form = .rot .rlc (.reg .b) ∧ Instr.rrc_c.form = .rot .rrc (.reg .c) ∧
    Instr.rl_d.form = .rot .rl (.reg .d) ∧ Instr.rr_e.form = .rot .rr (.reg .e) ∧
    Instr.sla_h.form = .rot .sla (.reg .h) ∧ Instr.sra_atHL.form = .rot .sra .atHL ∧
    Instr.swap_a.form = .rot .swap (.reg .a) ∧ Instr.srl_l.form = .rot .srl (.reg .l) ∧ demo.busMayFault = false :=
  ⟨rfl, rfl, rfl, rfl, rfl, rfl, rfl, rfl, rfl⟩

theorem witness_BitTestsAndWritesNothing :
    Instr.bit_0_b.form = .bit 0 (.reg .b) ∧ Instr.bit_7_atHL.form = .bit 7 .atHL ∧ demo.busMayFault = false :=
  ⟨rfl, rfl, rfl⟩

theorem witness_ResSetChangeOneBit :
    Instr.res_0_a.form = .res 0 (.reg .a) ∧ Instr.set_7_atHL.form = .set 7 .atHL ∧ demo.busMayFault = false :=
  ⟨rfl, rfl, rfl⟩

theorem witness_JumpsSetPC :
    (Instr.jr_c_e 0x80).form = .jrCc .c 0x80 ∧ demo.cond .c = true ∧
    (Instr.jr_nc_e 0x7F).form = .jrCc .nc 0x7F ∧ demo.cond .nc = false ∧
    (Instr.jp_nz_nn 0xFFFF).form = .jpCc .nz 0xFFFF ∧ demo.cond .nz = true ∧
    (Instr.jp_z_nn 0x0000).form = .jpCc .z 0x0000 ∧ demo.cond .z = false :=
  ⟨rfl, by decide, rfl, by decide, rfl, by decide, rfl, by decide⟩

theorem witness_CallsPushReturnAddress :
    (Instr.call_c_nn 0x1234).form = .callCc .c 0x1234 ∧ demo.cond .c = true ∧
    (Instr.call_z_nn 0x1234).form = .callCc .z 0x1234 ∧ demo.cond .z = false ∧
    Instr.rst_00.form = .rst 0 ∧ Instr.rst_38.form = .rst 7 ∧ demo.busMayFault = false :=
  ⟨rfl, by decide, rfl, by decide, rfl, rfl, rfl⟩

theorem witness_ReturnsPopPC :
    Instr.ret.form = .ret ∧ Instr.reti.form = .reti ∧ Instr.ret_nz.form = .retCc .nz ∧ demo.cond .nz = true ∧
    Instr.ret_nc.form = .retCc .nc ∧ demo.cond .nc = false ∧ demo.busMayFault = false :=
  ⟨rfl, rfl, rfl, by decide, rfl, by decide, rfl⟩

theorem witness_DaaAdjustsDecimal :
    demo.flag .n = true ∧ { demo with f := 0x30 }.flag .n = false ∧ { demo with a := 0x9A, f := 0x00 }.flag .h = false := by
  decide

end Sys2Proof.Tests
end

