-- ==== Sys2Proof/Tests/Words.lean ====
section
/-! SUPPORT. Every row's word, written out bit by bit from the "encoding" of spec/opcode_table.json (operand bytes zero),
decodes to the instruction its mnemonic names (spec/30_encoding.md R101 to R103, R106 to R109). -/

namespace Sys2Proof.Tests

/-- Every word of the list, of that many bits as the table numbers them, decodes to its instruction. -/
def wordsDecode (nbits : Nat) (words : List (Nat × Instr)) : Bool :=
  words.all fun p => decodeTableWord nbits p.1 == some p.2

theorem test_words_0x : wordsDecode 8 [
    (0b00000000, .nop), (0b00000001, .ld_bc_nn 0), (0b00000010, .ld_atBC_a), (0b00000011, .inc_bc),
    (0b00000100, .inc_b), (0b00000101, .dec_b), (0b00000110, .ld_b_n 0), (0b00000111, .rlca),
    (0b00001000, .ld_atNN_sp 0), (0b00001001, .add_hl_bc), (0b00001010, .ld_a_atBC), (0b00001011, .dec_bc),
    (0b00001100, .inc_c), (0b00001101, .dec_c), (0b00001110, .ld_c_n 0), (0b00001111, .rrca)] = true := by decide

theorem test_words_1x : wordsDecode 8 [
    (0b00010000, .stop), (0b00010001, .ld_de_nn 0), (0b00010010, .ld_atDE_a), (0b00010011, .inc_de),
    (0b00010100, .inc_d), (0b00010101, .dec_d), (0b00010110, .ld_d_n 0), (0b00010111, .rla),
    (0b00011000, .jr_e 0), (0b00011001, .add_hl_de), (0b00011010, .ld_a_atDE), (0b00011011, .dec_de),
    (0b00011100, .inc_e), (0b00011101, .dec_e), (0b00011110, .ld_e_n 0), (0b00011111, .rra)] = true := by decide

theorem test_words_2x : wordsDecode 8 [
    (0b00100000, .jr_nz_e 0), (0b00100001, .ld_hl_nn 0), (0b00100010, .ld_atHLInc_a), (0b00100011, .inc_hl),
    (0b00100100, .inc_h), (0b00100101, .dec_h), (0b00100110, .ld_h_n 0), (0b00100111, .daa),
    (0b00101000, .jr_z_e 0), (0b00101001, .add_hl_hl), (0b00101010, .ld_a_atHLInc), (0b00101011, .dec_hl),
    (0b00101100, .inc_l), (0b00101101, .dec_l), (0b00101110, .ld_l_n 0), (0b00101111, .cpl)] = true := by decide

theorem test_words_3x : wordsDecode 8 [
    (0b00110000, .jr_nc_e 0), (0b00110001, .ld_sp_nn 0), (0b00110010, .ld_atHLDec_a), (0b00110011, .inc_sp),
    (0b00110100, .inc_atHL), (0b00110101, .dec_atHL), (0b00110110, .ld_atHL_n 0), (0b00110111, .scf),
    (0b00111000, .jr_c_e 0), (0b00111001, .add_hl_sp), (0b00111010, .ld_a_atHLDec), (0b00111011, .dec_sp),
    (0b00111100, .inc_a), (0b00111101, .dec_a), (0b00111110, .ld_a_n 0), (0b00111111, .ccf)] = true := by decide

theorem test_words_4x : wordsDecode 8 [
    (0b01000000, .ld_b_b), (0b01000001, .ld_b_c), (0b01000010, .ld_b_d), (0b01000011, .ld_b_e),
    (0b01000100, .ld_b_h), (0b01000101, .ld_b_l), (0b01000110, .ld_b_atHL), (0b01000111, .ld_b_a),
    (0b01001000, .ld_c_b), (0b01001001, .ld_c_c), (0b01001010, .ld_c_d), (0b01001011, .ld_c_e),
    (0b01001100, .ld_c_h), (0b01001101, .ld_c_l), (0b01001110, .ld_c_atHL), (0b01001111, .ld_c_a)] = true := by decide

theorem test_words_5x : wordsDecode 8 [
    (0b01010000, .ld_d_b), (0b01010001, .ld_d_c), (0b01010010, .ld_d_d), (0b01010011, .ld_d_e),
    (0b01010100, .ld_d_h), (0b01010101, .ld_d_l), (0b01010110, .ld_d_atHL), (0b01010111, .ld_d_a),
    (0b01011000, .ld_e_b), (0b01011001, .ld_e_c), (0b01011010, .ld_e_d), (0b01011011, .ld_e_e),
    (0b01011100, .ld_e_h), (0b01011101, .ld_e_l), (0b01011110, .ld_e_atHL), (0b01011111, .ld_e_a)] = true := by decide

theorem test_words_6x : wordsDecode 8 [
    (0b01100000, .ld_h_b), (0b01100001, .ld_h_c), (0b01100010, .ld_h_d), (0b01100011, .ld_h_e),
    (0b01100100, .ld_h_h), (0b01100101, .ld_h_l), (0b01100110, .ld_h_atHL), (0b01100111, .ld_h_a),
    (0b01101000, .ld_l_b), (0b01101001, .ld_l_c), (0b01101010, .ld_l_d), (0b01101011, .ld_l_e),
    (0b01101100, .ld_l_h), (0b01101101, .ld_l_l), (0b01101110, .ld_l_atHL), (0b01101111, .ld_l_a)] = true := by decide

theorem test_words_7x : wordsDecode 8 [
    (0b01110000, .ld_atHL_b), (0b01110001, .ld_atHL_c), (0b01110010, .ld_atHL_d), (0b01110011, .ld_atHL_e),
    (0b01110100, .ld_atHL_h), (0b01110101, .ld_atHL_l), (0b01110110, .halt), (0b01110111, .ld_atHL_a),
    (0b01111000, .ld_a_b), (0b01111001, .ld_a_c), (0b01111010, .ld_a_d), (0b01111011, .ld_a_e),
    (0b01111100, .ld_a_h), (0b01111101, .ld_a_l), (0b01111110, .ld_a_atHL), (0b01111111, .ld_a_a)] = true := by decide

theorem test_words_8x : wordsDecode 8 [
    (0b10000000, .add_a_b), (0b10000001, .add_a_c), (0b10000010, .add_a_d), (0b10000011, .add_a_e),
    (0b10000100, .add_a_h), (0b10000101, .add_a_l), (0b10000110, .add_a_atHL), (0b10000111, .add_a_a),
    (0b10001000, .adc_a_b), (0b10001001, .adc_a_c), (0b10001010, .adc_a_d), (0b10001011, .adc_a_e),
    (0b10001100, .adc_a_h), (0b10001101, .adc_a_l), (0b10001110, .adc_a_atHL), (0b10001111, .adc_a_a)] = true := by decide

theorem test_words_9x : wordsDecode 8 [
    (0b10010000, .sub_a_b), (0b10010001, .sub_a_c), (0b10010010, .sub_a_d), (0b10010011, .sub_a_e),
    (0b10010100, .sub_a_h), (0b10010101, .sub_a_l), (0b10010110, .sub_a_atHL), (0b10010111, .sub_a_a),
    (0b10011000, .sbc_a_b), (0b10011001, .sbc_a_c), (0b10011010, .sbc_a_d), (0b10011011, .sbc_a_e),
    (0b10011100, .sbc_a_h), (0b10011101, .sbc_a_l), (0b10011110, .sbc_a_atHL), (0b10011111, .sbc_a_a)] = true := by decide

theorem test_words_ax : wordsDecode 8 [
    (0b10100000, .and_a_b), (0b10100001, .and_a_c), (0b10100010, .and_a_d), (0b10100011, .and_a_e),
    (0b10100100, .and_a_h), (0b10100101, .and_a_l), (0b10100110, .and_a_atHL), (0b10100111, .and_a_a),
    (0b10101000, .xor_a_b), (0b10101001, .xor_a_c), (0b10101010, .xor_a_d), (0b10101011, .xor_a_e),
    (0b10101100, .xor_a_h), (0b10101101, .xor_a_l), (0b10101110, .xor_a_atHL), (0b10101111, .xor_a_a)] = true := by decide

theorem test_words_bx : wordsDecode 8 [
    (0b10110000, .or_a_b), (0b10110001, .or_a_c), (0b10110010, .or_a_d), (0b10110011, .or_a_e),
    (0b10110100, .or_a_h), (0b10110101, .or_a_l), (0b10110110, .or_a_atHL), (0b10110111, .or_a_a),
    (0b10111000, .cp_a_b), (0b10111001, .cp_a_c), (0b10111010, .cp_a_d), (0b10111011, .cp_a_e),
    (0b10111100, .cp_a_h), (0b10111101, .cp_a_l), (0b10111110, .cp_a_atHL), (0b10111111, .cp_a_a)] = true := by decide

theorem test_words_cx : wordsDecode 8 [
    (0b11000000, .ret_nz), (0b11000001, .pop_bc), (0b11000010, .jp_nz_nn 0), (0b11000011, .jp_nn 0),
    (0b11000100, .call_nz_nn 0), (0b11000101, .push_bc), (0b11000110, .add_a_n 0), (0b11000111, .rst_00),
    (0b11001000, .ret_z), (0b11001001, .ret), (0b11001010, .jp_z_nn 0), (0b11001100, .call_z_nn 0),
    (0b11001101, .call_nn 0), (0b11001110, .adc_a_n 0), (0b11001111, .rst_08)] = true := by decide

theorem test_words_dx : wordsDecode 8 [
    (0b11010000, .ret_nc), (0b11010001, .pop_de), (0b11010010, .jp_nc_nn 0), (0b11010011, .illegal_D3),
    (0b11010100, .call_nc_nn 0), (0b11010101, .push_de), (0b11010110, .sub_a_n 0), (0b11010111, .rst_10),
    (0b11011000, .ret_c), (0b11011001, .reti), (0b11011010, .jp_c_nn 0), (0b11011011, .illegal_DB),
    (0b11011100, .call_c_nn 0), (0b11011101, .illegal_DD), (0b11011110, .sbc_a_n 0), (0b11011111, .rst_18)] = true := by decide

theorem test_words_ex : wordsDecode 8 [
    (0b11100000, .ldh_atN_a 0), (0b11100001, .pop_hl), (0b11100010, .ldh_atC_a), (0b11100011, .illegal_E3),
    (0b11100100, .illegal_E4), (0b11100101, .push_hl), (0b11100110, .and_a_n 0), (0b11100111, .rst_20),
    (0b11101000, .add_sp_e 0), (0b11101001, .jp_hl), (0b11101010, .ld_atNN_a 0), (0b11101011, .illegal_EB),
    (0b11101100, .illegal_EC), (0b11101101, .illegal_ED), (0b11101110, .xor_a_n 0), (0b11101111, .rst_28)] = true := by decide

theorem test_words_fx : wordsDecode 8 [
    (0b11110000, .ldh_a_atN 0), (0b11110001, .pop_af), (0b11110010, .ldh_a_atC), (0b11110011, .di),
    (0b11110100, .illegal_F4), (0b11110101, .push_af), (0b11110110, .or_a_n 0), (0b11110111, .rst_30),
    (0b11111000, .ld_hl_spPlusE 0), (0b11111001, .ld_sp_hl), (0b11111010, .ld_a_atNN 0), (0b11111011, .ei),
    (0b11111100, .illegal_FC), (0b11111101, .illegal_FD), (0b11111110, .cp_a_n 0), (0b11111111, .rst_38)] = true := by decide

theorem test_words_cb_0x : wordsDecode 16 [
    (0b1100101100000000, .rlc_b), (0b1100101100000001, .rlc_c), (0b1100101100000010, .rlc_d), (0b1100101100000011, .rlc_e),
    (0b1100101100000100, .rlc_h), (0b1100101100000101, .rlc_l), (0b1100101100000110, .rlc_atHL), (0b1100101100000111, .rlc_a),
    (0b1100101100001000, .rrc_b), (0b1100101100001001, .rrc_c), (0b1100101100001010, .rrc_d), (0b1100101100001011, .rrc_e),
    (0b1100101100001100, .rrc_h), (0b1100101100001101, .rrc_l), (0b1100101100001110, .rrc_atHL), (0b1100101100001111, .rrc_a)] = true := by decide

theorem test_words_cb_1x : wordsDecode 16 [
    (0b1100101100010000, .rl_b), (0b1100101100010001, .rl_c), (0b1100101100010010, .rl_d), (0b1100101100010011, .rl_e),
    (0b1100101100010100, .rl_h), (0b1100101100010101, .rl_l), (0b1100101100010110, .rl_atHL), (0b1100101100010111, .rl_a),
    (0b1100101100011000, .rr_b), (0b1100101100011001, .rr_c), (0b1100101100011010, .rr_d), (0b1100101100011011, .rr_e),
    (0b1100101100011100, .rr_h), (0b1100101100011101, .rr_l), (0b1100101100011110, .rr_atHL), (0b1100101100011111, .rr_a)] = true := by decide

theorem test_words_cb_2x : wordsDecode 16 [
    (0b1100101100100000, .sla_b), (0b1100101100100001, .sla_c), (0b1100101100100010, .sla_d), (0b1100101100100011, .sla_e),
    (0b1100101100100100, .sla_h), (0b1100101100100101, .sla_l), (0b1100101100100110, .sla_atHL), (0b1100101100100111, .sla_a),
    (0b1100101100101000, .sra_b), (0b1100101100101001, .sra_c), (0b1100101100101010, .sra_d), (0b1100101100101011, .sra_e),
    (0b1100101100101100, .sra_h), (0b1100101100101101, .sra_l), (0b1100101100101110, .sra_atHL), (0b1100101100101111, .sra_a)] = true := by decide

theorem test_words_cb_3x : wordsDecode 16 [
    (0b1100101100110000, .swap_b), (0b1100101100110001, .swap_c), (0b1100101100110010, .swap_d), (0b1100101100110011, .swap_e),
    (0b1100101100110100, .swap_h), (0b1100101100110101, .swap_l), (0b1100101100110110, .swap_atHL), (0b1100101100110111, .swap_a),
    (0b1100101100111000, .srl_b), (0b1100101100111001, .srl_c), (0b1100101100111010, .srl_d), (0b1100101100111011, .srl_e),
    (0b1100101100111100, .srl_h), (0b1100101100111101, .srl_l), (0b1100101100111110, .srl_atHL), (0b1100101100111111, .srl_a)] = true := by decide

theorem test_words_cb_4x : wordsDecode 16 [
    (0b1100101101000000, .bit_0_b), (0b1100101101000001, .bit_0_c), (0b1100101101000010, .bit_0_d), (0b1100101101000011, .bit_0_e),
    (0b1100101101000100, .bit_0_h), (0b1100101101000101, .bit_0_l), (0b1100101101000110, .bit_0_atHL), (0b1100101101000111, .bit_0_a),
    (0b1100101101001000, .bit_1_b), (0b1100101101001001, .bit_1_c), (0b1100101101001010, .bit_1_d), (0b1100101101001011, .bit_1_e),
    (0b1100101101001100, .bit_1_h), (0b1100101101001101, .bit_1_l), (0b1100101101001110, .bit_1_atHL), (0b1100101101001111, .bit_1_a)] = true := by decide

theorem test_words_cb_5x : wordsDecode 16 [
    (0b1100101101010000, .bit_2_b), (0b1100101101010001, .bit_2_c), (0b1100101101010010, .bit_2_d), (0b1100101101010011, .bit_2_e),
    (0b1100101101010100, .bit_2_h), (0b1100101101010101, .bit_2_l), (0b1100101101010110, .bit_2_atHL), (0b1100101101010111, .bit_2_a),
    (0b1100101101011000, .bit_3_b), (0b1100101101011001, .bit_3_c), (0b1100101101011010, .bit_3_d), (0b1100101101011011, .bit_3_e),
    (0b1100101101011100, .bit_3_h), (0b1100101101011101, .bit_3_l), (0b1100101101011110, .bit_3_atHL), (0b1100101101011111, .bit_3_a)] = true := by decide

theorem test_words_cb_6x : wordsDecode 16 [
    (0b1100101101100000, .bit_4_b), (0b1100101101100001, .bit_4_c), (0b1100101101100010, .bit_4_d), (0b1100101101100011, .bit_4_e),
    (0b1100101101100100, .bit_4_h), (0b1100101101100101, .bit_4_l), (0b1100101101100110, .bit_4_atHL), (0b1100101101100111, .bit_4_a),
    (0b1100101101101000, .bit_5_b), (0b1100101101101001, .bit_5_c), (0b1100101101101010, .bit_5_d), (0b1100101101101011, .bit_5_e),
    (0b1100101101101100, .bit_5_h), (0b1100101101101101, .bit_5_l), (0b1100101101101110, .bit_5_atHL), (0b1100101101101111, .bit_5_a)] = true := by decide

theorem test_words_cb_7x : wordsDecode 16 [
    (0b1100101101110000, .bit_6_b), (0b1100101101110001, .bit_6_c), (0b1100101101110010, .bit_6_d), (0b1100101101110011, .bit_6_e),
    (0b1100101101110100, .bit_6_h), (0b1100101101110101, .bit_6_l), (0b1100101101110110, .bit_6_atHL), (0b1100101101110111, .bit_6_a),
    (0b1100101101111000, .bit_7_b), (0b1100101101111001, .bit_7_c), (0b1100101101111010, .bit_7_d), (0b1100101101111011, .bit_7_e),
    (0b1100101101111100, .bit_7_h), (0b1100101101111101, .bit_7_l), (0b1100101101111110, .bit_7_atHL), (0b1100101101111111, .bit_7_a)] = true := by decide

theorem test_words_cb_8x : wordsDecode 16 [
    (0b1100101110000000, .res_0_b), (0b1100101110000001, .res_0_c), (0b1100101110000010, .res_0_d), (0b1100101110000011, .res_0_e),
    (0b1100101110000100, .res_0_h), (0b1100101110000101, .res_0_l), (0b1100101110000110, .res_0_atHL), (0b1100101110000111, .res_0_a),
    (0b1100101110001000, .res_1_b), (0b1100101110001001, .res_1_c), (0b1100101110001010, .res_1_d), (0b1100101110001011, .res_1_e),
    (0b1100101110001100, .res_1_h), (0b1100101110001101, .res_1_l), (0b1100101110001110, .res_1_atHL), (0b1100101110001111, .res_1_a)] = true := by decide

theorem test_words_cb_9x : wordsDecode 16 [
    (0b1100101110010000, .res_2_b), (0b1100101110010001, .res_2_c), (0b1100101110010010, .res_2_d), (0b1100101110010011, .res_2_e),
    (0b1100101110010100, .res_2_h), (0b1100101110010101, .res_2_l), (0b1100101110010110, .res_2_atHL), (0b1100101110010111, .res_2_a),
    (0b1100101110011000, .res_3_b), (0b1100101110011001, .res_3_c), (0b1100101110011010, .res_3_d), (0b1100101110011011, .res_3_e),
    (0b1100101110011100, .res_3_h), (0b1100101110011101, .res_3_l), (0b1100101110011110, .res_3_atHL), (0b1100101110011111, .res_3_a)] = true := by decide

theorem test_words_cb_ax : wordsDecode 16 [
    (0b1100101110100000, .res_4_b), (0b1100101110100001, .res_4_c), (0b1100101110100010, .res_4_d), (0b1100101110100011, .res_4_e),
    (0b1100101110100100, .res_4_h), (0b1100101110100101, .res_4_l), (0b1100101110100110, .res_4_atHL), (0b1100101110100111, .res_4_a),
    (0b1100101110101000, .res_5_b), (0b1100101110101001, .res_5_c), (0b1100101110101010, .res_5_d), (0b1100101110101011, .res_5_e),
    (0b1100101110101100, .res_5_h), (0b1100101110101101, .res_5_l), (0b1100101110101110, .res_5_atHL), (0b1100101110101111, .res_5_a)] = true := by decide

theorem test_words_cb_bx : wordsDecode 16 [
    (0b1100101110110000, .res_6_b), (0b1100101110110001, .res_6_c), (0b1100101110110010, .res_6_d), (0b1100101110110011, .res_6_e),
    (0b1100101110110100, .res_6_h), (0b1100101110110101, .res_6_l), (0b1100101110110110, .res_6_atHL), (0b1100101110110111, .res_6_a),
    (0b1100101110111000, .res_7_b), (0b1100101110111001, .res_7_c), (0b1100101110111010, .res_7_d), (0b1100101110111011, .res_7_e),
    (0b1100101110111100, .res_7_h), (0b1100101110111101, .res_7_l), (0b1100101110111110, .res_7_atHL), (0b1100101110111111, .res_7_a)] = true := by decide

theorem test_words_cb_cx : wordsDecode 16 [
    (0b1100101111000000, .set_0_b), (0b1100101111000001, .set_0_c), (0b1100101111000010, .set_0_d), (0b1100101111000011, .set_0_e),
    (0b1100101111000100, .set_0_h), (0b1100101111000101, .set_0_l), (0b1100101111000110, .set_0_atHL), (0b1100101111000111, .set_0_a),
    (0b1100101111001000, .set_1_b), (0b1100101111001001, .set_1_c), (0b1100101111001010, .set_1_d), (0b1100101111001011, .set_1_e),
    (0b1100101111001100, .set_1_h), (0b1100101111001101, .set_1_l), (0b1100101111001110, .set_1_atHL), (0b1100101111001111, .set_1_a)] = true := by decide

theorem test_words_cb_dx : wordsDecode 16 [
    (0b1100101111010000, .set_2_b), (0b1100101111010001, .set_2_c), (0b1100101111010010, .set_2_d), (0b1100101111010011, .set_2_e),
    (0b1100101111010100, .set_2_h), (0b1100101111010101, .set_2_l), (0b1100101111010110, .set_2_atHL), (0b1100101111010111, .set_2_a),
    (0b1100101111011000, .set_3_b), (0b1100101111011001, .set_3_c), (0b1100101111011010, .set_3_d), (0b1100101111011011, .set_3_e),
    (0b1100101111011100, .set_3_h), (0b1100101111011101, .set_3_l), (0b1100101111011110, .set_3_atHL), (0b1100101111011111, .set_3_a)] = true := by decide

theorem test_words_cb_ex : wordsDecode 16 [
    (0b1100101111100000, .set_4_b), (0b1100101111100001, .set_4_c), (0b1100101111100010, .set_4_d), (0b1100101111100011, .set_4_e),
    (0b1100101111100100, .set_4_h), (0b1100101111100101, .set_4_l), (0b1100101111100110, .set_4_atHL), (0b1100101111100111, .set_4_a),
    (0b1100101111101000, .set_5_b), (0b1100101111101001, .set_5_c), (0b1100101111101010, .set_5_d), (0b1100101111101011, .set_5_e),
    (0b1100101111101100, .set_5_h), (0b1100101111101101, .set_5_l), (0b1100101111101110, .set_5_atHL), (0b1100101111101111, .set_5_a)] = true := by decide

theorem test_words_cb_fx : wordsDecode 16 [
    (0b1100101111110000, .set_6_b), (0b1100101111110001, .set_6_c), (0b1100101111110010, .set_6_d), (0b1100101111110011, .set_6_e),
    (0b1100101111110100, .set_6_h), (0b1100101111110101, .set_6_l), (0b1100101111110110, .set_6_atHL), (0b1100101111110111, .set_6_a),
    (0b1100101111111000, .set_7_b), (0b1100101111111001, .set_7_c), (0b1100101111111010, .set_7_d), (0b1100101111111011, .set_7_e),
    (0b1100101111111100, .set_7_h), (0b1100101111111101, .set_7_l), (0b1100101111111110, .set_7_atHL), (0b1100101111111111, .set_7_a)] = true := by decide

end Sys2Proof.Tests
end

section
/-! PROOFS (the family 10_state.md). What an instruction's meaning can answer, said once: the state it goes on to. -/

namespace Sys2Proof

open Machine

/-- The four flags of an 8-bit result, written together (R193 to R200). -/
def Machine.State.setAluFlags (out : AluOut) (s : State) : State := s.setFlags out.z out.n out.h out.c

/-- The state a form's meaning goes on to, when no access faults; an illegal byte has none (its row is a placeholder,
which `Form.exec_next` never reaches). -/
def Form.after (form : Form) (s : State) : State :=
  match form with
  | .ldRR dst src => s.setReg8 dst (s.reg8 src)
  | .ldRN dst n => s.setReg8 dst n
  | .ldRAtHL dst => (s.afterRead s.hl).setReg8 dst (s.busValue s.hl)
  | .ldAtHLR src => s.afterWrite s.hl (s.reg8 src)
  | .ldAtHLN n => s.afterWrite s.hl n
  | .ldAAtBC => (s.afterRead s.bc).setReg8 .a (s.busValue s.bc)
  | .ldAAtDE => (s.afterRead s.de).setReg8 .a (s.busValue s.de)
  | .ldAAtNN nn => (s.afterRead nn).setReg8 .a (s.busValue nn)
  | .ldAtBCA => s.afterWrite s.bc s.a
  | .ldAtDEA => s.afterWrite s.de s.a
  | .ldAtNNA nn => s.afterWrite nn s.a
  | .ldAAtHLInc => ((s.afterRead s.hl).setReg8 .a (s.busValue s.hl)).setHL (s.hl + 1)
  | .ldAAtHLDec => ((s.afterRead s.hl).setReg8 .a (s.busValue s.hl)).setHL (s.hl + -1)
  | .ldAtHLIncA => (s.afterWrite s.hl s.a).setHL (s.hl + 1)
  | .ldAtHLDecA => (s.afterWrite s.hl s.a).setHL (s.hl + -1)
  | .ldhAAtN n => (s.afterRead (highPage n)).setReg8 .a (s.busValue (highPage n))
  | .ldhAtNA n => s.afterWrite (highPage n) s.a
  | .ldhAAtC => (s.afterRead (highPage s.c)).setReg8 .a (s.busValue (highPage s.c))
  | .ldhAtCA => s.afterWrite (highPage s.c) s.a
  | .ldRRNN rr nn => s.setReg16 rr nn
  | .ldAtNNSP nn => (s.afterWrite nn (loByte s.sp)).afterWrite (nn + 1) (hiByte s.sp)
  | .ldSPHL => s.internal.setSP s.hl
  | .ldHLSPE e =>
    (s.internal.setHL (addSPe s.sp e).1).setFlags false false (addSPe s.sp e).2.1 (addSPe s.sp e).2.2
  | .push p => s.internal.afterPush (s.pair p)
  | .pop p => s.afterPop.setPair p s.popValue
  | .alu .cp x =>
    (s.afterSource x).setAluFlags (aluOut .cp s.a (s.sourceValue x) (s.flag .c))
  | .alu op x =>
    let out := aluOut op s.a (s.sourceValue x) (s.flag .c)
    ((s.afterSource x).setReg8 .a out.res).setAluFlags out
  | .incR r => (s.setReg8 r (s.reg8 r + 1)).setIncFlags (s.reg8 r + 1)
  | .incAtHL => ((s.afterRead s.hl).afterWrite s.hl (s.busValue s.hl + 1)).setIncFlags (s.busValue s.hl + 1)
  | .decR r => (s.setReg8 r (s.reg8 r - 1)).setDecFlags (s.reg8 r - 1)
  | .decAtHL => ((s.afterRead s.hl).afterWrite s.hl (s.busValue s.hl - 1)).setDecFlags (s.busValue s.hl - 1)
  | .incRR rr => s.internal.setReg16 rr (s.reg16 rr + 1)
  | .decRR rr => s.internal.setReg16 rr (s.reg16 rr - 1)
  | .addHLRR rr =>
    (((s.internal.setHL (s.hl + s.reg16 rr)).setFlag .n false).setFlag .h (halfCarry16 s.hl (s.reg16 rr))).setFlag .c
      (carry16 s.hl (s.reg16 rr))
  | .addSPE e =>
    (s.internal.internal.setSP (addSPe s.sp e).1).setFlags false false (addSPe s.sp e).2.1 (addSPe s.sp e).2.2
  | .rotA op =>
    let out := accRotOut op s.a (s.flag .c)
    (s.setReg8 .a out.1).setFlags false false false out.2
  | .rot op x =>
    let out := rotOut op (s.targetValue x) (s.flag .c)
    ((s.afterTarget x).afterWriteTarget x out.1).setFlags (out.1 == 0) false false out.2
  | .bit n x => (((s.afterTarget x).setFlag .z (!(s.targetValue x).getLsbD n.val)).setFlag .n false).setFlag .h true
  | .res n x => (s.afterTarget x).afterWriteTarget x (s.targetValue x &&& ~~~(bitMask n))
  | .set n x => (s.afterTarget x).afterWriteTarget x (s.targetValue x ||| bitMask n)
  | .jr e => s.internal.setPC (s.pc + sext16 e)
  | .jrCc cc e => if s.cond cc then s.internal.setPC (s.pc + sext16 e) else s
  | .jp nn => s.internal.setPC nn
  | .jpCc cc nn => if s.cond cc then s.internal.setPC nn else s
  | .jpHL => s.setPC s.hl
  | .call nn => (s.internal.afterPush s.pc).setPC nn
  | .callCc cc nn => if s.cond cc then (s.internal.afterPush s.pc).setPC nn else s
  | .ret => s.afterPop.internal.setPC s.popValue
  | .retCc cc => if s.cond cc then s.internal.afterPop.internal.setPC s.internal.popValue else s.internal
  | .reti => s.afterPop.internal.setPC s.popValue
  | .rst y => (s.internal.afterPush s.pc).setPC (restartTarget y)
  | .nop => s
  | .daa =>
    let out := daaOut s.a (s.flag .n) (s.flag .h) (s.flag .c)
    (((s.setReg8 .a out.1).setFlag .z (out.1 == 0)).setFlag .h false).setFlag .c out.2
  | .cpl => ((s.setReg8 .a (~~~s.a)).setFlag .n true).setFlag .h true
  | .scf => ((s.setFlag .n false).setFlag .h false).setFlag .c true
  | .ccf => ((s.toggleFlag .c).setFlag .n false).setFlag .h false
  | .di => s
  | .ei => s
  | .halt => s.internal.internal
  | .stop => s.internal.internal
  | .illegal _ => s

namespace Machine

/-! ### The state each operation with an access goes on to -/

theorem loadRegAt_next {dst : Reg8} {addr : Word} {s t : State} (h : loadRegAt dst addr s = .next t) :
    t = (s.afterRead addr).setReg8 dst (s.busValue addr) := by
  unfold loadRegAt at h; cases memRead_next h; rfl

theorem storeAt_next {addr : Word} {v : Byte} {s t : State} (h : storeAt addr v s = .next t) :
    t = s.afterWrite addr v := by
  unfold storeAt at h; cases memWrite_next h; rfl

theorem callTo_next {nn : Word} {s t : State} (h : callTo nn s = .next t) :
    t = (s.internal.afterPush s.pc).setPC nn := by
  unfold callTo at h; cases push16_next h; rfl

theorem returnFromCall_next {s t : State} (h : returnFromCall s = .next t) :
    t = s.afterPop.internal.setPC s.popValue := by
  unfold returnFromCall at h; cases pop16_next h; rfl

theorem aluA_next {op : AluOp} {x : Source8} {s t : State} (h : aluA op x s = .next t) :
    t = ((s.afterSource x).setReg8 .a (aluOut op s.a (s.sourceValue x) (s.flag .c)).res).setAluFlags
      (aluOut op s.a (s.sourceValue x) (s.flag .c)) := by
  unfold aluA at h; cases readSource_next h; rfl

theorem compareA_next {x : Source8} {s t : State} (h : compareA x s = .next t) :
    t = (s.afterSource x).setAluFlags (aluOut .cp s.a (s.sourceValue x) (s.flag .c)) := by
  unfold compareA at h; cases readSource_next h; rfl

/-- A conditional operation goes on to one of two states. -/
theorem ite_next {c : Prop} [Decidable c] {yes : Result} {t u v : State} (hyes : yes = .next t → t = u)
    (h : (if c then yes else .next v) = .next t) : t = if c then u else v := by
  split at h
  case isTrue hc => rw [if_pos hc]; exact hyes h
  case isFalse hc => rw [if_neg hc]; cases h; rfl

end Machine

/-- If a form's meaning answers a next state, it is the form's `after`. -/
theorem Form.exec_next {form : Form} {s t : State} (h : form.exec s = .next t) : t = form.after s := by
  cases form with
  | ldRAtHL | ldAAtBC | ldAAtDE | ldAAtNN | ldhAAtN | ldhAAtC => exact loadRegAt_next h
  | ldAtHLR | ldAtHLN | ldAtBCA | ldAtDEA | ldAtNNA | ldhAtNA | ldhAtCA => exact storeAt_next h
  | ldAAtHLInc | ldAAtHLDec => unfold Form.exec loadAStepHL at h; cases memRead_next h; rfl
  | ldAtHLIncA | ldAtHLDecA => unfold Form.exec storeAStepHL at h; cases memWrite_next h; rfl
  | ldAtNNSP => unfold Form.exec storeSPAt at h; cases memWrite_next (memWrite_next h); rfl
  | push => unfold Form.exec pushPair at h; cases push16_next h; rfl
  | pop => unfold Form.exec popPair at h; cases pop16_next h; rfl
  | alu op x =>
    cases op with
    | cp => exact compareA_next h
    | _ => exact aluA_next h
  | incAtHL => unfold Form.exec Machine.incAtHL at h; cases memWrite_next (memRead_next h); rfl
  | decAtHL => unfold Form.exec Machine.decAtHL at h; cases memWrite_next (memRead_next h); rfl
  | rot => unfold Form.exec rotateTarget at h; cases writeTarget_next (readTarget_next h); rfl
  | bit => unfold Form.exec testBit at h; cases readTarget_next h; rfl
  | res => unfold Form.exec resetBit at h; cases writeTarget_next (readTarget_next h); rfl
  | set => unfold Form.exec setBit at h; cases writeTarget_next (readTarget_next h); rfl
  | jrCc | jpCc => exact ite_next (fun h => by cases h; rfl) h
  | call | rst => exact callTo_next h
  | callCc => exact ite_next callTo_next h
  | ret | reti => exact returnFromCall_next h
  | retCc => exact ite_next returnFromCall_next h
  | illegal => cases h
  | _ => cases h; rfl

/-- If an instruction answers a next state, it is the `after` of its form. -/
theorem Machine.exec_next {i : Instr} {s t : State} (h : exec i s = .next t) : t = i.form.after s :=
  Form.exec_next (exec_eq_form i s ▸ h)

end Sys2Proof
end

section
/-! PROOFS (the family 10_state.md). Legal states (R22, R67): every operation keeps them, so every step does. -/

namespace Sys2Proof

open Machine

namespace Machine

/-- Legality looks at F, the flat RAM and the reset flag alone. -/
theorem State.legal_congr {s t : State} (hf : t.f = s.f) (hm : t.mem = s.mem) (hw : t.wasReset = s.wasReset) :
    t.Legal ↔ s.Legal := by
  simp only [State.Legal, hf, hm, hw]

/-! ### Operations that touch neither F nor memory -/

@[simp] theorem State.legal_setReg8 (r : Reg8) (v : Byte) (s : State) : (s.setReg8 r v).Legal ↔ s.Legal :=
  State.legal_congr (by simp) (by simp) (by simp)

@[simp] theorem State.legal_setReg16 (rr : Reg16) (v : Word) (s : State) : (s.setReg16 rr v).Legal ↔ s.Legal :=
  State.legal_congr (by simp) (by simp) (by simp)

@[simp] theorem State.legal_setHL (v : Word) (s : State) : (s.setHL v).Legal ↔ s.Legal := State.legal_setReg16 .hl v s

@[simp] theorem State.legal_setSP (v : Word) (s : State) : (s.setSP v).Legal ↔ s.Legal := State.legal_setReg16 .sp v s

@[simp] theorem State.legal_setPC (v : Word) (s : State) : (s.setPC v).Legal ↔ s.Legal := Iff.rfl

@[simp] theorem State.legal_internal (s : State) : s.internal.Legal ↔ s.Legal := Iff.rfl

@[simp] theorem State.legal_beginStep (s : State) : s.beginStep.Legal ↔ s.Legal := Iff.rfl

@[simp] theorem State.legal_afterRead (addr : Word) (s : State) : (s.afterRead addr).Legal ↔ s.Legal := Iff.rfl

@[simp] theorem State.legal_afterPop (s : State) : s.afterPop.Legal ↔ s.Legal := Iff.rfl

@[simp] theorem State.legal_afterSource (x : Source8) (s : State) : (s.afterSource x).Legal ↔ s.Legal := by
  cases x <;> rfl

@[simp] theorem State.legal_afterTarget (x : Target8) (s : State) : (s.afterTarget x).Legal ↔ s.Legal := by
  cases x <;> rfl

@[simp] theorem State.legal_afterFetch (n : Nat) (s : State) : (s.afterFetch n).Legal ↔ s.Legal := by
  induction n generalizing s with
  | zero => rfl
  | succ n ih => exact ih s.fetched

/-! ### Writes of F: the mask keeps the low nibble zero (R22) -/

/-- What the mask leaves has no low nibble. -/
theorem lowNibble_masked (v : Byte) : v &&& 0xF0 &&& 0x0F = 0 := by
  rw [BitVec.and_assoc]; exact BitVec.and_zero

@[simp] theorem State.legal_setF {s : State} (h : s.Legal) (v : Byte) : (s.setF v).Legal :=
  ⟨lowNibble_masked v, h.2⟩

@[simp] theorem State.legal_setFlag {s : State} (h : s.Legal) (x : Flag) (b : Bool) : (s.setFlag x b).Legal :=
  State.legal_setF h _

/-- One masked write of F decides as much as two. -/
@[simp] theorem State.legal_setFlag_setFlag (x y : Flag) (b c : Bool) (s : State) :
    ((s.setFlag x b).setFlag y c).Legal ↔ (s.setFlag x b).Legal :=
  ⟨fun h => ⟨lowNibble_masked _, h.2⟩, fun h => State.legal_setFlag h y c⟩

@[simp] theorem State.legal_toggleFlag {s : State} (h : s.Legal) (x : Flag) : (s.toggleFlag x).Legal :=
  State.legal_setFlag h _ _

@[simp] theorem State.legal_setFlags {s : State} (h : s.Legal) (z n hc c : Bool) : (s.setFlags z n hc c).Legal :=
  State.legal_setF h _

@[simp] theorem State.legal_setAluFlags {s : State} (h : s.Legal) (out : AluOut) : (s.setAluFlags out).Legal :=
  State.legal_setFlags h _ _ _ _

@[simp] theorem State.legal_setIncFlags {s : State} (h : s.Legal) (v : Byte) : (s.setIncFlags v).Legal := by
  simp [State.setIncFlags, h]

@[simp] theorem State.legal_setDecFlags {s : State} (h : s.Legal) (v : Byte) : (s.setDecFlags v).Legal := by
  simp [State.setDecFlags, h]

@[simp] theorem State.legal_setPair {s : State} (h : s.Legal) (p : StackPair) (v : Word) : (s.setPair p v).Legal := by
  cases p with
  | af => exact State.legal_setF ((State.legal_setReg8 .a _ _).mpr h) _
  | _ => exact h

/-! ### Writes of memory keep the canonical form (R67) -/

@[simp] theorem State.legal_afterWrite {s : State} (h : s.Legal) (addr : Word) (v : Byte) :
    (s.afterWrite addr v).Legal := by
  obtain ⟨hf, hm, hw⟩ := h
  exact ⟨hf, State.wf_memAfter hm addr v, hw⟩

@[simp] theorem State.legal_afterPush {s : State} (h : s.Legal) (v : Word) : (s.afterPush v).Legal := by
  simp [State.afterPush, h]

@[simp] theorem State.legal_afterWriteTarget {s : State} (h : s.Legal) (x : Target8) (v : Byte) :
    (s.afterWriteTarget x v).Legal := by
  cases x <;> simp [State.afterWriteTarget, h]

/-! ### What a step that answers a next state did -/

theorem fetchByte_next {s t : State} {k : Byte → State → Result} (h : fetchByte s k = .next t) :
    k (s.busValue s.pc) s.fetched = .next t :=
  memRead_next h

theorem fetchBytes_next {n : Nat} {s t : State} {k : List Byte → State → Result} (h : fetchBytes n s k = .next t) :
    k (s.fetchedBytes n) (s.afterFetch n) = .next t := by
  induction n generalizing s k with
  | zero => exact h
  | succ n ih => exact ih (fetchByte_next h)

/-- A fetch that goes on has handed on the instruction that the fetched bytes decode to. -/
theorem fetchInstr_next {s t : State} {k : Instr → State → Result} (h : fetchInstr s k = .next t) :
    ∃ i rest, decode (s.fetchedBytes (opLength (s.busValue s.pc) - 1 + 1)) = .ok (i, rest) ∧
      k i (s.afterFetch (opLength (s.busValue s.pc) - 1 + 1)) = .next t := by
  have hk := fetchBytes_next (fetchByte_next h)
  split at hk
  case h_1 i rest hd => exact ⟨i, rest, hd, hk⟩
  case h_2 => cases hk

/-- A step that answers a next state: a core that was reset fetched an instruction, which went on to its form's
`after`. -/
theorem step_next {s t : State} (h : step s = .next t) :
    s.wasReset = true ∧ ∃ i rest,
      decode (s.beginStep.fetchedBytes (opLength (s.busValue s.pc) - 1 + 1)) = .ok (i, rest) ∧
      t = i.form.after (s.beginStep.afterFetch (opLength (s.busValue s.pc) - 1 + 1)) := by
  unfold step at h
  split at h
  case isTrue hr =>
    obtain ⟨i, rest, hd, hi⟩ := fetchInstr_next h
    exact ⟨hr, i, rest, hd, exec_next hi⟩
  case isFalse => cases h

end Machine

/-- Every form's meaning goes on to a legal state from a legal one: each is made of the operations above. -/
theorem Form.legal_after (form : Form) {s : State} (h : s.Legal) : (form.after s).Legal := by
  cases form with
  | jrCc | jpCc | callCc | retCc => dsimp only [Form.after]; split <;> simp [h]
  | alu op => cases op <;> simp [Form.after, h]
  | _ => simp [Form.after, h]

/-- Settles O21: the fetch keeps the state legal, and so does the form of the instruction fetched. -/
theorem legalStateKeptByEveryStep : Obligations.LegalStateKeptByEveryStep := by
  intro s t hs h
  obtain ⟨-, i, _, -, rfl⟩ := step_next h
  exact i.form.legal_after (by simpa using hs)

/-- Settles O3: `step` asks for the reset flag first. -/
theorem stepBeforeResetFaults : Obligations.StepBeforeResetFaults := by
  have key (s : State) (h : s.wasReset = false) : step s = .fault .notReset := by simp [step, h]
  exact ⟨fun bus m => key _ rfl, key⟩

/-- Settles O4: reset masks F (D5) and leaves memory as it was. -/
theorem resetLeavesLegalState : Obligations.ResetLeavesLegalState :=
  ⟨⟨rfl, State.reset_mem_wf, rfl⟩, fun _ _ hm => ⟨lowNibble_masked _, hm, rfl⟩⟩

/-- Settles O2: the empty snapshot gives every register its default, zero, and an unlisted address reads zero. -/
theorem resetStateIsAllZero : Obligations.ResetStateIsAllZero :=
  ⟨fun r => by cases r <;> rfl, fun _ => rfl, rfl⟩

end Sys2Proof
end

section
/-! PROOFS (the family 10_state.md). Registers: what an operation does to the value of each (R21, R26). -/

namespace Sys2Proof

open Machine

namespace Machine

/-! ### The value of a register after each operation -/

@[simp] theorem State.value_setReg8 (q : Register) (r : Reg8) (v : Byte) (s : State) :
    (s.setReg8 r v).value q = if q = regOf r then v.toNat else s.value q := by
  cases r <;> cases q <;> rfl

/-- The mask of F as a number (R22). -/
theorem toNat_masked (v : Byte) : (v &&& 0xF0).toNat = v.toNat / 16 * 16 := by
  revert v; decide

@[simp] theorem State.value_setF (q : Register) (v : Byte) (s : State) :
    (s.setF v).value q = if q = .f then v.toNat / 16 * 16 else s.value q := by
  cases q with
  | f => exact toNat_masked v
  | _ => rfl

@[simp] theorem State.value_setSP (q : Register) (v : Word) (s : State) :
    (s.setSP v).value q = if q = .sp then v.toNat else s.value q := by
  cases q <;> rfl

@[simp] theorem State.value_setPC (q : Register) (v : Word) (s : State) :
    (s.setPC v).value q = if q = .pc then v.toNat else s.value q := by
  cases q <;> rfl

@[simp] theorem State.value_setBC (q : Register) (v : Word) (s : State) :
    (s.setBC v).value q = if q = .b then v.toNat / 256 else if q = .c then v.toNat % 256 else s.value q := by
  cases q <;> simp [State.value]

@[simp] theorem State.value_setDE (q : Register) (v : Word) (s : State) :
    (s.setDE v).value q = if q = .d then v.toNat / 256 else if q = .e then v.toNat % 256 else s.value q := by
  cases q <;> simp [State.value]

@[simp] theorem State.value_setHL (q : Register) (v : Word) (s : State) :
    (s.setHL v).value q = if q = .h then v.toNat / 256 else if q = .l then v.toNat % 256 else s.value q := by
  cases q <;> simp [State.value]

@[simp] theorem State.value_setAF (q : Register) (v : Word) (s : State) :
    (s.setAF v).value q = if q = .a then v.toNat / 256 else if q = .f then v.toNat % 256 / 16 * 16 else s.value q := by
  cases q with
  | a => exact toNat_hiByte v
  | f => exact (toNat_masked _).trans (by rw [toNat_loByte]; rfl)
  | _ => rfl

@[simp] theorem State.value_internal (q : Register) (s : State) : s.internal.value q = s.value q := rfl

@[simp] theorem State.value_afterRead (q : Register) (addr : Word) (s : State) :
    (s.afterRead addr).value q = s.value q := rfl

@[simp] theorem State.value_afterWrite (q : Register) (addr : Word) (v : Byte) (s : State) :
    (s.afterWrite addr v).value q = s.value q := rfl

@[simp] theorem State.value_afterSource (q : Register) (x : Source8) (s : State) :
    (s.afterSource x).value q = s.value q := by
  cases x <;> rfl

@[simp] theorem State.value_afterTarget (q : Register) (x : Target8) (s : State) :
    (s.afterTarget x).value q = s.value q := by
  cases x <;> rfl

/-! ### The registers an operation cannot change -/

section
variable {q : Register} (s : State)

@[simp] theorem State.value_setReg16_of_notMem {rr : Reg16} (hq : q ∉ regsOfPair rr) (v : Word) :
    (s.setReg16 rr v).value q = s.value q := by
  cases rr <;> simp_all [State.setReg16, regsOfPair]

@[simp] theorem State.value_setPair_of_notMem {p : StackPair} (hq : q ∉ regsOfStackPair p) (v : Word) :
    (s.setPair p v).value q = s.value q := by
  cases p <;> simp_all [State.setPair, regsOfStackPair]

@[simp] theorem State.value_afterWriteTarget_of_notMem {x : Target8} (hq : q ∉ regsOfTarget x) (v : Byte) :
    (s.afterWriteTarget x v).value q = s.value q := by
  cases x <;> simp_all [State.afterWriteTarget, regsOfTarget]

@[simp] theorem State.value_afterPush_of_ne (hq : q ≠ .sp) (v : Word) : (s.afterPush v).value q = s.value q := by
  simp [State.afterPush, hq]

@[simp] theorem State.value_afterPop_of_ne (hq : q ≠ .sp) : s.afterPop.value q = s.value q := by
  simp [State.afterPop, hq]

variable (hq : q ≠ .f)
include hq

@[simp] theorem State.value_setFlag_of_ne (x : Flag) (b : Bool) : (s.setFlag x b).value q = s.value q := by
  simp [State.setFlag, hq]

@[simp] theorem State.value_toggleFlag_of_ne (x : Flag) : (s.toggleFlag x).value q = s.value q := by
  simp [State.toggleFlag, hq]

@[simp] theorem State.value_setFlags_of_ne (z n h c : Bool) : (s.setFlags z n h c).value q = s.value q := by
  simp [State.setFlags, hq]

@[simp] theorem State.value_setAluFlags_of_ne (out : AluOut) : (s.setAluFlags out).value q = s.value q := by
  simp [State.setAluFlags, hq]

@[simp] theorem State.value_setIncFlags_of_ne (v : Byte) : (s.setIncFlags v).value q = s.value q := by
  simp [State.setIncFlags, hq]

@[simp] theorem State.value_setDecFlags_of_ne (v : Byte) : (s.setDecFlags v).value q = s.value q := by
  simp [State.setDecFlags, hq]

end
end Machine

/-- A form's `after` writes no register outside the form's list (R26, R27). -/
theorem Form.keepsOtherRegisters_after (form : Form) (s : State) :
    KeepsOtherRegisters form.writes s (form.after s) := by
  intro q hq
  cases form with
  | jrCc | jpCc | callCc | retCc => dsimp only [Form.after]; split <;> simp_all [Form.writes]
  | alu op => cases op <;> simp_all [Form.after, Form.writes, regOf]
  | _ => simp_all [Form.after, Form.writes, regOf]

/-- Settles O26: a next state is the `after` of the instruction's form. -/
theorem onlyListedRegistersChange : Obligations.OnlyListedRegistersChange := by
  intro i s t h
  rw [exec_next h]
  exact i.form.keepsOtherRegisters_after s

namespace Machine

/-! ### Frames of the register writes -/

/-- An operation on registers alone has the frame of the registers it writes. -/
theorem frame_of_keepsOtherRegisters {ws : List Register} {s t : State} (h : KeepsOtherRegisters ws s t)
    (hm : t.mem = s.mem) (hs : KeepsSetup s t) : Frame ws [] s t :=
  ⟨h, fun x _ => by rw [hm], hs⟩

theorem frame_setReg16 (rr : Reg16) (v : Word) (s : State) : Frame (regsOfPair rr) [] s (s.setReg16 rr v) :=
  frame_of_keepsOtherRegisters (fun _ hq => State.value_setReg16_of_notMem s hq v) (by simp) (by simp [KeepsSetup])

theorem frame_setPair (p : StackPair) (v : Word) (s : State) : Frame (regsOfStackPair p) [] s (s.setPair p v) :=
  frame_of_keepsOtherRegisters (fun _ hq => State.value_setPair_of_notMem s hq v) (by simp) (by simp [KeepsSetup])

theorem frame_setF (v : Byte) (s : State) : Frame [.f] [] s (s.setF v) :=
  frame_of_keepsOtherRegisters (fun q hq => by simp [List.mem_singleton.not.mp hq]) rfl ⟨rfl, rfl, rfl, rfl, rfl⟩

end Machine

/-- Settles O5: a pair is its two bytes as one number (R21); AF goes through the mask of F. -/
theorem pairViewsShareBytes : Obligations.PairViewsShareBytes := by
  intro s v
  exact ⟨toNat_wordOf s.b s.c, toNat_wordOf s.d s.e, toNat_wordOf s.h s.l, toNat_wordOf s.a s.f,
    wordOf_hiByte_loByte v, wordOf_hiByte_loByte v, wordOf_hiByte_loByte v,
    toNat_hiByte v, toNat_loByte v, toNat_hiByte v, toNat_loByte v, toNat_hiByte v, toNat_loByte v,
    toNat_hiByte v, State.value_setAF .f v s,
    frame_setReg16 .bc v s, frame_setReg16 .de v s, frame_setReg16 .hl v s, frame_setPair .af v s⟩

end Sys2Proof
end

section
/-! PROOFS (the family 10_state.md). The flags in F (R23), and what each form does to them (R27). -/

namespace Sys2Proof

open Machine

namespace Machine

/-! ### A flag after a write of F -/

theorem Flag.getLsbD_mask (x y : Flag) : x.mask.getLsbD y.bit = decide (x = y) := by
  cases x <;> cases y <;> rfl

/-- The mask of F keeps the bit of every flag. -/
theorem Flag.getLsbD_masked (y : Flag) (v : Byte) : (v &&& 0xF0).getLsbD y.bit = v.getLsbD y.bit := by
  cases y <;> simp [Flag.bit]

theorem State.flag_setF (y : Flag) (v : Byte) (s : State) : (s.setF v).flag y = v.getLsbD y.bit :=
  y.getLsbD_masked v

@[simp] theorem State.flag_setFlag (x y : Flag) (b : Bool) (s : State) :
    (s.setFlag x b).flag y = if x = y then b else s.flag y := by
  have hy : y.bit < 8 := by cases y <;> decide
  have hand : (s.f &&& ~~~x.mask).getLsbD y.bit = (s.flag y && !decide (x = y)) := by
    rw [BitVec.getLsbD_and, BitVec.getLsbD_not, Flag.getLsbD_mask]; simp [State.flag, hy]
  have hor : (s.f ||| x.mask).getLsbD y.bit = (s.flag y || decide (x = y)) := by
    rw [BitVec.getLsbD_or, Flag.getLsbD_mask]; rfl
  rw [State.setFlag, State.flag_setF]
  cases b with
  | false => exact hand.trans (by split <;> simp_all)
  | true => exact hor.trans (by split <;> simp_all)

@[simp] theorem State.flag_toggleFlag (x y : Flag) (s : State) :
    (s.toggleFlag x).flag y = if x = y then !s.flag y else s.flag y := by
  rw [State.toggleFlag, State.flag_setFlag]
  split <;> simp_all

@[simp] theorem State.flag_afterTarget (y : Flag) (x : Target8) (s : State) :
    (s.afterTarget x).flag y = s.flag y := by
  cases x <;> rfl

/-- A flag as a binary digit of F. -/
theorem State.flag_eq_decide (y : Flag) (s : State) : s.flag y = decide (s.f.toNat / 2 ^ y.bit % 2 = 1) :=
  Nat.testBit_eq_decide_div_mod_eq

theorem toNat_packFlags (z n h c : Bool) :
    (packFlags z n h c &&& 0xF0).toNat = 128 * z.toNat + 64 * n.toNat + 32 * h.toNat + 16 * c.toNat := by
  cases z <;> cases n <;> cases h <;> cases c <;> rfl

/-- F's low nibble is zero after a write, as a number. -/
theorem State.lowNibble_setF (v : Byte) (s : State) : (s.setF v).f.toNat % 16 = 0 := by
  have h : (s.setF v).f.toNat = v.toNat / 16 * 16 := toNat_masked v
  omega

end Machine

/-- Settles O6: every write of F is one of `setF`, and a flag is a digit of F. -/
theorem flagRegisterWrites : Obligations.FlagRegisterWrites := by
  intro s v x y b
  exact ⟨toNat_masked v, s.flag_eq_decide .z, s.flag_eq_decide .n, s.flag_eq_decide .h, s.flag_eq_decide .c,
    s.flag_setFlag x y b, s.flag_toggleFlag x y, s.lowNibble_setF _, s.lowNibble_setF _,
    fun z n h c => ⟨toNat_packFlags z n h c, frame_setF _ s⟩, frame_setF v s, frame_setF _ s, frame_setF _ s⟩

namespace Machine

/-! ### The table R27 against the registers written -/

theorem forall_flag {p : Flag → Prop} : (∀ x, p x) ↔ p .z ∧ p .n ∧ p .h ∧ p .c :=
  ⟨fun h => ⟨h .z, h .n, h .h, h .c⟩, fun ⟨hz, hn, hh, hc⟩ x => by cases x <;> assumption⟩

@[simp] theorem f_ne_regOf (r : Reg8) : Register.f ≠ regOf r := by cases r <;> decide

@[simp] theorem f_notMem_regsOfPair (rr : Reg16) : Register.f ∉ regsOfPair rr := by cases rr <;> decide

@[simp] theorem f_notMem_regsOfTarget (x : Target8) : Register.f ∉ regsOfTarget x := by
  cases x <;> simp [regsOfTarget]

end Machine

/-- The tables R26 and R27 agree: a form preserves all four flags exactly if it does not list F. -/
theorem Form.preserves_flags_iff (form : Form) :
    (∀ x, form.flagEffect x = .preserved) ↔ Register.f ∉ form.writes := by
  cases form with
  | alu op => cases op <;> simp [forall_flag, Form.flagEffect, flagRow, Form.writes]
  | rot op => cases op <;> simp [forall_flag, Form.flagEffect, flagRow, Form.writes]
  | pop p => cases p <;> simp [forall_flag, Form.flagEffect, flagRow, Form.writes, regsOfStackPair]
  | _ => simp [forall_flag, Form.flagEffect, flagRow, Form.writes]

/-- A form that does not list F leaves it as it was. -/
theorem Form.f_after {form : Form} (hf : Register.f ∉ form.writes) (s : State) : (form.after s).f = s.f :=
  BitVec.eq_of_toNat_eq (form.keepsOtherRegisters_after s .f hf)

/-- The forms that write F treat each flag as the table says. -/
theorem Form.flagEffect_holds_of_writes_f {form : Form} (hf : Register.f ∈ form.writes) (s : State) :
    ∀ x, (form.flagEffect x).holds (s.flag x) ((form.after s).flag x) := by
  rw [forall_flag]
  cases form with
  | alu op =>
    cases op <;> simp [Form.flagEffect, flagRow, FlagEffect.holds, Form.after, State.setAluFlags, aluOut, add8, sub8, logic8]
  | rot op => cases op <;> simp [Form.flagEffect, flagRow, FlagEffect.holds, Form.after, rotOut]
  | pop p =>
    cases p with
    | af => exact ⟨trivial, trivial, trivial, trivial⟩
    | _ => simp [Form.writes, regsOfStackPair] at hf
  | incR | incAtHL => simp [Form.flagEffect, flagRow, FlagEffect.holds, Form.after, State.setIncFlags]
  | decR | decAtHL => simp [Form.flagEffect, flagRow, FlagEffect.holds, Form.after, State.setDecFlags]
  | ldHLSPE | addHLRR | addSPE | rotA | bit | daa | cpl | scf | ccf =>
    simp [Form.flagEffect, flagRow, FlagEffect.holds, Form.after]
  | _ => simp [Form.writes] at hf

/-- Settles O28: a form that lists F follows its row, computed above; any other leaves F as it was. -/
theorem flagEffectsFollowTable : Obligations.FlagEffectsFollowTable := by
  intro i s t h
  rw [exec_next h]
  refine ⟨?_, fun hx => Form.f_after (i.form.preserves_flags_iff.mp hx) s⟩
  by_cases hf : Register.f ∈ i.form.writes
  · exact Form.flagEffect_holds_of_writes_f hf s
  · intro x
    rw [i.form.preserves_flags_iff.mpr hf x]
    simp only [FlagEffect.holds, State.flag, Form.f_after hf]

end Sys2Proof
end

section
/-! PROOFS (the family 20_memory.md). One access: what it does on a bus that does not fault (R51 to R53), on the flat RAM
(R67), and when the bus's error ends the step (R56, R303). -/

namespace Sys2Proof

open Machine

namespace Machine

/-! ### The flat-RAM bus -/

/-- The flat RAM returns the byte it holds (R67). -/
theorem State.busValue_of_flatRam {s : State} (h : s.bus = .flatRam) (addr : Word) :
    s.busValue addr = Memory.read s.mem addr.toNat := by
  rw [State.busValue, h]

/-- The flat RAM never faults (R67). -/
theorem State.busMayFault_of_flatRam {s : State} (h : s.bus = .flatRam) : s.busMayFault = false := by
  rw [State.busMayFault, h]

/-- On the flat RAM a read after a write returns the byte written there, every other byte as before. -/
theorem State.busValue_afterWrite {s : State} (h : s.bus = .flatRam) (addr : Word) (v : Byte) (y : Word) :
    (s.afterWrite addr v).busValue y = if addr = y then v else s.busValue y := by
  have hafter : (s.afterWrite addr v).bus = .flatRam := h
  rw [State.busValue_of_flatRam hafter, State.busValue_of_flatRam h, State.read_afterWrite]
  simp [h, BitVec.toNat_inj]

/-! ### The frame of an access and of an internal tick -/

/-- After a write on the flat RAM the address holds the byte. -/
theorem holdsByte_afterWrite (addr : Word) (v : Byte) (s : State) : HoldsByte addr v s (s.afterWrite addr v) := by
  intro h
  rw [State.read_afterWrite, if_pos ⟨h, rfl⟩]

theorem keepsSetup_refl (s : State) : KeepsSetup s s := ⟨rfl, rfl, rfl, rfl, rfl⟩

theorem keepsOtherMemory_of_mem_eq {s t : State} (h : t.mem = s.mem) : KeepsOtherMemory [] s t := fun _ _ => by rw [h]

theorem keepsOtherMemory_afterWrite (addr : Word) (v : Byte) (s : State) :
    KeepsOtherMemory [addr] s (s.afterWrite addr v) := by
  intro x hx
  have hne : ¬(s.bus = .flatRam ∧ addr.toNat = x) := fun h => hx addr (List.mem_singleton.mpr rfl) h.2
  rw [State.read_afterWrite, if_neg hne]

theorem frame_internal (s : State) : Frame [] [] s s.internal :=
  ⟨fun _ _ => rfl, keepsOtherMemory_of_mem_eq rfl, keepsSetup_refl s⟩

theorem frame_afterRead (addr : Word) (s : State) : Frame [] [] s (s.afterRead addr) :=
  ⟨fun _ _ => rfl, keepsOtherMemory_of_mem_eq rfl, keepsSetup_refl s⟩

theorem frame_afterWrite (addr : Word) (v : Byte) (s : State) : Frame [] [addr] s (s.afterWrite addr v) :=
  ⟨fun _ _ => rfl, keepsOtherMemory_afterWrite addr v s, keepsSetup_refl s⟩

/-! ### The bus's error -/

/-- A bus raises an error only if it may fault (R56). -/
theorem State.busMayFault_of_busFaultInfo {s : State} {q : BusRequest} {info : Nat}
    (h : s.busFaultInfo q = some info) : s.busMayFault = true := by
  unfold State.busFaultInfo at h
  split at h
  case isTrue hf => exact hf
  case isFalse => cases h

/-- The state a bus error leaves holds the ticks and bytes before the access (R303), the error in front (log entry 31),
F masked (R22). -/
theorem State.afterBusError_keeps (q : BusRequest) (info : Nat) (s : State) :
    (s.afterBusError q info).trace = s.trace ∧ (s.afterBusError q info).mem = s.mem ∧
      (s.afterBusError q info).errors = .busError info :: s.errors ∧ (s.afterBusError q info).f &&& 0x0F = 0 :=
  ⟨rfl, rfl, rfl, lowNibble_masked _⟩

end Machine

/-- Settles O7: the flat RAM's laws, read through the bus. -/
theorem flatRamReadAfterWrite : Obligations.FlatRamReadAfterWrite := by
  intro s addr v h
  exact ⟨State.busMayFault_of_flatRam h, State.busValue_of_flatRam h addr, State.busValue_afterWrite h addr v,
    fun y => (State.busValue_of_flatRam (s := s.afterRead addr) h y).trans (State.busValue_of_flatRam h y).symm,
    rfl, rfl, rfl, rfl⟩

/-- Settles O8: without a fault an access goes on to `afterRead` or `afterWrite`, which emit its one tick. -/
theorem eachAccessEmitsOneTick : Obligations.EachAccessEmitsOneTick := by
  intro s addr v kr kw h
  refine ⟨⟨s.afterRead addr, memRead_ok h addr kr, ?_⟩, ⟨s.afterWrite addr v, memWrite_ok h addr v kw, ?_⟩, ?_⟩
  · exact ⟨rfl, rfl, rfl, frame_afterRead addr s⟩
  · exact ⟨rfl, rfl, rfl, holdsByte_afterWrite addr v s, frame_afterWrite addr v s⟩
  · exact ⟨rfl, frame_internal s, rfl, rfl, rfl⟩

/-- Settles O9: an access ends with the bus's error or goes on, and only a bus that may fault has an error. -/
theorem busErrorEndsTheStep : Obligations.BusErrorEndsTheStep := by
  intro s addr v kr kw
  constructor
  · obtain ⟨info, hinfo, hread⟩ | ⟨-, hread⟩ := memRead_cases addr s kr
    · exact .inr ⟨State.busMayFault_of_busFaultInfo hinfo, info, _, hread, State.afterBusError_keeps _ info s⟩
    · exact .inl hread
  · obtain ⟨info, hinfo, hwrite⟩ | ⟨-, hwrite⟩ := memWrite_cases addr v s kw
    · exact .inr ⟨State.busMayFault_of_busFaultInfo hinfo, info, _, hwrite, State.afterBusError_keeps _ info s⟩
    · exact .inl hwrite

end Sys2Proof
end

section
/-! PROOFS (the family 20_memory.md). What an instruction does to the bus, the timing hook and memory (R55, R63, R67 to
R69), said once: it emits ticks, each of which joins the trace, is seen by an installed callback, and stores at most at
its own address. -/

namespace Sys2Proof

open Machine

namespace Machine

/-! ### Emitting ticks -/

/-- `t` is reached from `s` by emitting these ticks, in order, and by writing registers: what the trace, the callback and
the last-access record then hold, and the bytes that may have changed. -/
def Emits (ticks : List Tick) (s t : State) : Prop :=
  t.trace = s.trace ++ ticks ∧ t.observed = s.observed ++ (if s.callback then ticks else []) ∧
  t.lastAccess = (lastBusTick ticks).or s.lastAccess ∧ KeepsOtherMemory (ticks.filterMap Tick.storeAddr) s t ∧
  KeepsSetup s t

theorem keepsOtherMemory_trans {ws vs : List Word} {s t u : State} (hst : KeepsOtherMemory ws s t)
    (htu : KeepsOtherMemory vs t u) : KeepsOtherMemory (ws ++ vs) s u := fun x hx =>
  (htu x fun w hw => hx w (List.mem_append_right ws hw)).trans (hst x fun w hw => hx w (List.mem_append_left vs hw))

theorem keepsSetup_trans {s t u : State} (hst : KeepsSetup s t) (htu : KeepsSetup t u) : KeepsSetup s u := by
  obtain ⟨hbus, hcallback, herrors, hreset, hdraws⟩ := hst
  obtain ⟨hbus', hcallback', herrors', hreset', hdraws'⟩ := htu
  exact ⟨hbus'.trans hbus, hcallback'.trans hcallback, herrors'.trans herrors, hreset'.trans hreset, hdraws'.trans hdraws⟩

theorem lastBusTick_cons (t : Tick) (ticks : List Tick) :
    lastBusTick (t :: ticks) = (lastBusTick ticks).or (lastBusTick [t]) := by
  cases h : lastBusTick ticks <;> cases t <;> simp [lastBusTick, h]

/-- The last access of two runs of ticks is that of the second, or else of the first. -/
theorem lastBusTick_append (ticks more : List Tick) :
    lastBusTick (ticks ++ more) = (lastBusTick more).or (lastBusTick ticks) := by
  induction ticks with
  | nil => exact Option.or_none.symm
  | cons t ticks ih => rw [List.cons_append, lastBusTick_cons, ih, Option.or_assoc, ← lastBusTick_cons]

theorem emits_nil_self (s : State) : Emits [] s s :=
  ⟨(List.append_nil _).symm, by simp, rfl, keepsOtherMemory_of_mem_eq rfl, keepsSetup_refl s⟩

theorem emits_trans {ticks more : List Tick} {s t u : State} (hst : Emits ticks s t) (htu : Emits more t u) :
    Emits (ticks ++ more) s u := by
  obtain ⟨htrace, hobserved, hlast, hmem, hsetup⟩ := hst
  obtain ⟨htrace', hobserved', hlast', hmem', hsetup'⟩ := htu
  have ⟨_, hcallback, _⟩ := hsetup
  refine ⟨?_, ?_, ?_, ?_, keepsSetup_trans hsetup hsetup'⟩
  · rw [htrace', htrace, List.append_assoc]
  · rw [hobserved', hobserved, hcallback]
    split <;> simp
  · rw [hlast', hlast, lastBusTick_append, Option.or_assoc]
  · rw [List.filterMap_append]
    exact keepsOtherMemory_trans hmem hmem'

/-! ### The tick of each operation that emits one -/

/-- The callback is invoked at one more tick, if it is installed. -/
theorem observed_append_singleton (c : Bool) (ticks : List Tick) (t : Tick) :
    (if c then ticks ++ [t] else ticks) = ticks ++ if c then [t] else [] := by
  split <;> simp

theorem emits_internal (s : State) : Emits [.internal] s s.internal :=
  ⟨rfl, observed_append_singleton .., rfl, keepsOtherMemory_of_mem_eq rfl, keepsSetup_refl s⟩

theorem emits_afterRead (addr : Word) (s : State) : Emits [.read addr (s.busValue addr)] s (s.afterRead addr) :=
  ⟨rfl, observed_append_singleton .., rfl, keepsOtherMemory_of_mem_eq rfl, keepsSetup_refl s⟩

theorem emits_afterWrite (addr : Word) (v : Byte) (s : State) : Emits [.write addr v] s (s.afterWrite addr v) :=
  ⟨rfl, observed_append_singleton .., rfl, keepsOtherMemory_afterWrite addr v s, keepsSetup_refl s⟩

/-! ### The addresses stored to -/

/-- `t` is reached from `s` by emitting ticks of which the writes go to these addresses, in order. -/
def Stores (ws : List Word) (s t : State) : Prop :=
  ∃ ticks, Emits ticks s t ∧ ticks.filterMap Tick.storeAddr = ws

theorem stores_of_emits {ticks : List Tick} {s t : State} (h : Emits ticks s t) :
    Stores (ticks.filterMap Tick.storeAddr) s t :=
  ⟨ticks, h, rfl⟩

theorem stores_trans {ws vs : List Word} {s t u : State} (hst : Stores ws s t) (htu : Stores vs t u) :
    Stores (ws ++ vs) s u := by
  obtain ⟨ticks, hst, rfl⟩ := hst
  obtain ⟨more, htu, rfl⟩ := htu
  exact ⟨ticks ++ more, emits_trans hst htu, List.filterMap_append⟩

/-- What stores nothing adds no address. -/
theorem stores_trans_nil {ws : List Word} {s t u : State} (hst : Stores ws s t) (htu : Stores [] t u) : Stores ws s u :=
  List.append_nil ws ▸ stores_trans hst htu

@[simp] theorem stores_nil_self (s : State) : Stores [] s s := stores_of_emits (emits_nil_self s)

section
variable {ws : List Word} {s t : State}

/-! Writes of registers: the hook, the bus and memory are as before. -/

@[simp] theorem stores_setReg8 (r : Reg8) (v : Byte) : Stores ws s (t.setReg8 r v) ↔ Stores ws s t := by
  cases r <;> rfl

@[simp] theorem stores_setReg16 (rr : Reg16) (v : Word) : Stores ws s (t.setReg16 rr v) ↔ Stores ws s t := by
  cases rr <;> rfl

@[simp] theorem stores_setPair (p : StackPair) (v : Word) : Stores ws s (t.setPair p v) ↔ Stores ws s t := by
  cases p <;> rfl

@[simp] theorem stores_setHL (v : Word) : Stores ws s (t.setHL v) ↔ Stores ws s t := Iff.rfl

@[simp] theorem stores_setSP (v : Word) : Stores ws s (t.setSP v) ↔ Stores ws s t := Iff.rfl

@[simp] theorem stores_setPC (v : Word) : Stores ws s (t.setPC v) ↔ Stores ws s t := Iff.rfl

@[simp] theorem stores_setFlag (x : Flag) (b : Bool) : Stores ws s (t.setFlag x b) ↔ Stores ws s t := Iff.rfl

@[simp] theorem stores_toggleFlag (x : Flag) : Stores ws s (t.toggleFlag x) ↔ Stores ws s t := Iff.rfl

@[simp] theorem stores_setFlags (z n h c : Bool) : Stores ws s (t.setFlags z n h c) ↔ Stores ws s t := Iff.rfl

@[simp] theorem stores_setAluFlags (out : AluOut) : Stores ws s (t.setAluFlags out) ↔ Stores ws s t := Iff.rfl

@[simp] theorem stores_setIncFlags (v : Byte) : Stores ws s (t.setIncFlags v) ↔ Stores ws s t := Iff.rfl

@[simp] theorem stores_setDecFlags (v : Byte) : Stores ws s (t.setDecFlags v) ↔ Stores ws s t := Iff.rfl

/-! Internal ticks and reads: no store. -/

@[simp] theorem stores_internal (h : Stores ws s t) : Stores ws s t.internal :=
  stores_trans_nil h (stores_of_emits (emits_internal t))

@[simp] theorem stores_afterRead (h : Stores ws s t) (addr : Word) : Stores ws s (t.afterRead addr) :=
  stores_trans_nil h (stores_of_emits (emits_afterRead addr t))

@[simp] theorem stores_afterPop (h : Stores ws s t) : Stores ws s t.afterPop := by
  simp [State.afterPop, h]

@[simp] theorem stores_afterSource (h : Stores ws s t) (x : Source8) : Stores ws s (t.afterSource x) := by
  cases x <;> simp [State.afterSource, h]

@[simp] theorem stores_afterTarget (h : Stores ws s t) (x : Target8) : Stores ws s (t.afterTarget x) := by
  cases x <;> simp [State.afterTarget, h]

/-! Writes: one store each, behind the earlier ones. -/

theorem stores_append_afterWrite (h : Stores ws s t) (addr : Word) (v : Byte) :
    Stores (ws ++ [addr]) s (t.afterWrite addr v) :=
  stores_trans h (stores_of_emits (emits_afterWrite addr v t))

@[simp] theorem stores_afterWrite (h : Stores [] s t) (addr : Word) (v : Byte) :
    Stores [addr] s (t.afterWrite addr v) :=
  stores_append_afterWrite h addr v

end

/-- The write-back of a CB target goes to the address read (R234). -/
@[simp] theorem stores_writeBack (x : Target8) (v : Byte) (s : State) :
    Stores (storesOfTarget x s) s ((s.afterTarget x).afterWriteTarget x v) := by
  cases x with
  | reg r => exact (stores_setReg8 r v).mpr (stores_nil_self s)
  | atHL => exact stores_afterWrite (stores_afterRead (stores_nil_self s) s.hl) s.hl v

/-- A push follows an internal tick (R175, R266); it writes at SP - 1, then at SP - 2 (R177). -/
@[simp] theorem stores_internal_afterPush (v : Word) (s : State) : Stores (storesOfPush s) s (s.internal.afterPush v) := by
  have hstores : [s.sp - 1] ++ [s.sp - 1 - 1] = storesOfPush s := by rw [sub_sub]; rfl
  have hhigh : Stores [s.sp - 1] s ((s.internal.setSP (s.sp - 1)).afterWrite (s.sp - 1) (hiByte v)) :=
    stores_afterWrite (by simp) _ _
  exact hstores ▸ stores_append_afterWrite ((stores_setSP _).mpr hhigh) _ _

end Machine

/-- Every form's meaning emits ticks of which the writes go to the form's store addresses, in order. -/
theorem Form.stores_after (form : Form) (s : State) : Stores (form.stores s) s (form.after s) := by
  cases form with
  | jrCc | jpCc | callCc => dsimp only [Form.after, Form.stores]; split <;> simp
  | retCc cc =>
    dsimp only [Form.after, Form.stores]
    split
    · exact (stores_setPC _).mpr (stores_internal (stores_afterPop (stores_internal (stores_nil_self s))))
    · simp
  | alu op => cases op <;> simp [Form.after, Form.stores]
  | ldAtNNSP nn => exact stores_append_afterWrite (stores_afterWrite (stores_nil_self s) nn _) (nn + 1) _
  | _ => simp [Form.after, Form.stores]

/-- Settles O27: a next state is the `after` of the instruction's form, which changes what its writes go to. -/
theorem onlyStoredBytesChange : Obligations.OnlyStoredBytesChange := by
  intro i s t h
  obtain ⟨ticks, ⟨-, -, -, hmem, hsetup⟩, hstores⟩ := i.form.stores_after s
  rw [exec_next h]
  exact ⟨hstores ▸ hmem, hsetup⟩

/-- Settles O29: the ticks that the `after` of the instruction's form emits. -/
theorem busWritesGoToStoreAddresses : Obligations.BusWritesGoToStoreAddresses := by
  intro i s t h
  obtain ⟨ticks, ⟨htrace, -⟩, hstores⟩ := i.form.stores_after s
  rw [exec_next h]
  exact ⟨ticks, htrace, hstores⟩

namespace Machine

/-! ### The ticks of a step -/

/-- Fetching emits ticks (R104). -/
theorem afterFetch_emits (n : Nat) (s : State) : ∃ ticks, Emits ticks s (s.afterFetch n) := by
  induction n generalizing s with
  | zero => exact ⟨[], emits_nil_self s⟩
  | succ n ih =>
    obtain ⟨ticks, hticks⟩ := ih s.fetched
    exact ⟨_, emits_trans (emits_afterRead s.pc s) hticks⟩

/-- A step that answers a next state emits the read of its first byte and then the ticks that follow. -/
theorem step_emits {s t : State} (h : step s = .next t) :
    ∃ ticks, Emits (.read s.pc (s.busValue s.pc) :: ticks) s.beginStep t := by
  obtain ⟨-, i, rest, -, rfl⟩ := step_next h
  obtain ⟨fetches, hfetches⟩ := afterFetch_emits (opLength (s.busValue s.pc) - 1) s.beginStep.fetched
  obtain ⟨ticks, hticks, -⟩ := i.form.stores_after (s.beginStep.fetched.afterFetch (opLength (s.busValue s.pc) - 1))
  exact ⟨fetches ++ ticks, emits_trans (emits_afterRead s.pc s.beginStep) (emits_trans hfetches hticks)⟩

end Machine

/-- Settles O23: a step begins with an empty trace and nothing observed, and its first tick is an access. -/
theorem callbackSeesEveryTick : Obligations.CallbackSeesEveryTick := by
  intro s t h
  obtain ⟨ticks, htrace, hobserved, hlast, -⟩ := step_emits h
  rw [State.beginStep_trace, List.nil_append] at htrace
  refine ⟨?_, ?_, ?_⟩
  · rw [htrace]; exact hobserved
  · rw [hlast, htrace, lastBusTick_cons, Option.or_assoc]; rfl
  · rw [htrace]; exact List.cons_ne_nil _ _

end Sys2Proof
end

section
/-! PROOFS (the family 20_memory.md). The callback is an observer only (R68, D9): whatever goes on without it goes on in
the same way. -/

namespace Sys2Proof

open Machine

namespace Machine

/-- If the first result answers a next state, the second answers the same state, unobserved. -/
def Unobserves (r r' : Result) : Prop := ∀ t, r = .next t → r' = .next t.unobserved

theorem unobserves_next {t u : State} (h : t.unobserved = u) : Unobserves (.next t) (.next u) := by
  rintro _ ⟨⟩
  rw [h]

/-! ### Writes of registers and accesses: neither sees the callback -/

theorem unobserved_setReg8 (r : Reg8) (v : Byte) (s : State) : (s.setReg8 r v).unobserved = s.unobserved.setReg8 r v := by
  cases r <;> rfl

theorem unobserved_setReg16 (rr : Reg16) (v : Word) (s : State) :
    (s.setReg16 rr v).unobserved = s.unobserved.setReg16 rr v := by
  cases rr <;> rfl

theorem unobserved_setPair (p : StackPair) (v : Word) (s : State) :
    (s.setPair p v).unobserved = s.unobserved.setPair p v := by
  cases p <;> rfl

section
variable {s : State} {k k' : Byte → State → Result} {q q' : State → Result} {w w' : Word → State → Result}

theorem unobserves_memRead (addr : Word) (hk : ∀ v t, Unobserves (k v t) (k' v t.unobserved)) :
    Unobserves (memRead addr s k) (memRead addr s.unobserved k') := by
  intro t h
  obtain ⟨info, -, hfault⟩ | ⟨hok, hread⟩ := memRead_cases addr s k
  · rw [hfault] at h; cases h
  · have hok' : s.unobserved.busFaultInfo (.read addr) = none := hok
    rw [memRead, hok']
    exact hk _ _ t (hread ▸ h)

theorem unobserves_memWrite (addr : Word) (v : Byte) (hq : ∀ t, Unobserves (q t) (q' t.unobserved)) :
    Unobserves (memWrite addr v s q) (memWrite addr v s.unobserved q') := by
  intro t h
  obtain ⟨info, -, hfault⟩ | ⟨hok, hwrite⟩ := memWrite_cases addr v s q
  · rw [hfault] at h; cases h
  · have hok' : s.unobserved.busFaultInfo (.write addr v) = none := hok
    rw [memWrite, hok']
    exact hq _ t (hwrite ▸ h)

theorem unobserves_push16 (v : Word) (hq : ∀ t, Unobserves (q t) (q' t.unobserved)) :
    Unobserves (push16 v s q) (push16 v s.unobserved q') := by
  unfold push16
  exact unobserves_memWrite (s := s.setSP (s.sp - 1)) _ _ fun t =>
    unobserves_memWrite (s := t.setSP (t.sp - 1)) _ _ hq

theorem unobserves_pop16 (hw : ∀ v t, Unobserves (w v t) (w' v t.unobserved)) :
    Unobserves (pop16 s w) (pop16 s.unobserved w') :=
  unobserves_memRead _ fun _ t =>
    unobserves_memRead (s := t.setSP (t.sp + 1)) _ fun _ u => hw _ (u.setSP (u.sp + 1))

theorem unobserves_readSource (x : Source8) (hk : ∀ v t, Unobserves (k v t) (k' v t.unobserved)) :
    Unobserves (readSource x s k) (readSource x s.unobserved k') := by
  cases x with
  | reg r => exact hk (s.reg8 r) s
  | atHL => exact unobserves_memRead s.hl hk
  | imm n => exact hk n s

theorem unobserves_readTarget (x : Target8) (hk : ∀ v t, Unobserves (k v t) (k' v t.unobserved)) :
    Unobserves (readTarget x s k) (readTarget x s.unobserved k') := by
  cases x with
  | reg r => exact hk (s.reg8 r) s
  | atHL => exact unobserves_memRead s.hl hk

theorem unobserves_writeTarget (x : Target8) (v : Byte) (hq : ∀ t, Unobserves (q t) (q' t.unobserved)) :
    Unobserves (writeTarget x v s q) (writeTarget x v s.unobserved q') := by
  cases x with
  | reg r =>
    rw [writeTarget, writeTarget, ← unobserved_setReg8]
    exact hq (s.setReg8 r v)
  | atHL => exact unobserves_memWrite s.hl v hq

theorem unobserves_ite {c : Prop} [Decidable c] {yes yes' no no' : Result} (hyes : Unobserves yes yes')
    (hno : Unobserves no no') : Unobserves (if c then yes else no) (if c then yes' else no') := by
  split
  · exact hyes
  · exact hno

/-! ### The fetch -/

theorem unobserves_fetchByte (hk : ∀ v t, Unobserves (k v t) (k' v t.unobserved)) :
    Unobserves (fetchByte s k) (fetchByte s.unobserved k') :=
  unobserves_memRead s.pc fun v t => hk v (t.setPC (s.pc + 1))

theorem unobserves_fetchBytes (n : Nat) {s : State} {k k' : List Byte → State → Result}
    (hk : ∀ vs t, Unobserves (k vs t) (k' vs t.unobserved)) :
    Unobserves (fetchBytes n s k) (fetchBytes n s.unobserved k') := by
  induction n generalizing s k k' with
  | zero => exact hk [] s
  | succ n ih => exact unobserves_fetchByte fun v t => ih fun vs => hk (v :: vs)

theorem unobserves_fetchInstr {k k' : Instr → State → Result} (hk : ∀ i t, Unobserves (k i t) (k' i t.unobserved)) :
    Unobserves (fetchInstr s k) (fetchInstr s.unobserved k') :=
  unobserves_fetchByte fun o t => unobserves_fetchBytes _ fun rest u => by
    split
    · exact hk _ u
    · exact fun _ h => nomatch h

end

/-! ### Operations of several forms -/

theorem unobserves_loadRegAt (dst : Reg8) (addr : Word) (s : State) :
    Unobserves (loadRegAt dst addr s) (loadRegAt dst addr s.unobserved) :=
  unobserves_memRead addr fun v t => unobserves_next (unobserved_setReg8 dst v t)

theorem unobserves_storeAt (addr : Word) (v : Byte) (s : State) :
    Unobserves (storeAt addr v s) (storeAt addr v s.unobserved) :=
  unobserves_memWrite addr v fun _ => unobserves_next rfl

theorem unobserves_callTo (nn : Word) (s : State) : Unobserves (callTo nn s) (callTo nn s.unobserved) :=
  unobserves_push16 (s := s.internal) s.pc fun _ => unobserves_next rfl

theorem unobserves_returnFromCall (s : State) : Unobserves (returnFromCall s) (returnFromCall s.unobserved) :=
  unobserves_pop16 fun _ _ => unobserves_next rfl

theorem unobserves_aluA (op : AluOp) (x : Source8) (s : State) : Unobserves (aluA op x s) (aluA op x s.unobserved) :=
  unobserves_readSource x fun _ _ => unobserves_next rfl

theorem unobserves_compareA (x : Source8) (s : State) : Unobserves (compareA x s) (compareA x s.unobserved) :=
  unobserves_readSource x fun _ _ => unobserves_next rfl

end Machine

/-- Every form's meaning goes on without the callback as with it. -/
theorem Form.unobserves_exec (form : Form) (s : State) : Unobserves (form.exec s) (form.exec s.unobserved) := by
  cases form with
  | ldRR | ldRN => exact unobserves_next (unobserved_setReg8 _ _ _)
  | ldRAtHL | ldAAtBC | ldAAtDE | ldAAtNN | ldhAAtN | ldhAAtC => exact unobserves_loadRegAt _ _ s
  | ldAtHLR | ldAtHLN | ldAtBCA | ldAtDEA | ldAtNNA | ldhAtNA | ldhAtCA => exact unobserves_storeAt _ _ s
  | ldAAtHLInc | ldAAtHLDec =>
    unfold Form.exec loadAStepHL
    exact unobserves_memRead s.hl fun _ _ => unobserves_next rfl
  | ldAtHLIncA | ldAtHLDecA =>
    unfold Form.exec storeAStepHL
    exact unobserves_memWrite s.hl s.a fun _ => unobserves_next rfl
  | ldRRNN | incRR | decRR => exact unobserves_next (unobserved_setReg16 _ _ _)
  | ldAtNNSP nn =>
    unfold Form.exec storeSPAt
    exact unobserves_memWrite nn _ fun _ => unobserves_memWrite (nn + 1) _ fun _ => unobserves_next rfl
  | push p => exact unobserves_push16 (s := s.internal) (s.pair p) fun _ => unobserves_next rfl
  | pop p =>
    unfold Form.exec popPair
    exact unobserves_pop16 fun v t => unobserves_next (unobserved_setPair p v t)
  | alu op x =>
    cases op with
    | cp => exact unobserves_compareA x s
    | _ => exact unobserves_aluA _ x s
  | incR | decR => exact unobserves_next (by rw [← unobserved_setReg8]; rfl)
  | incAtHL | decAtHL =>
    dsimp only [Form.exec, Machine.incAtHL, Machine.decAtHL]
    exact unobserves_memRead s.hl fun _ _ => unobserves_memWrite s.hl _ fun _ => unobserves_next rfl
  | rot _ x | res _ x | set _ x =>
    dsimp only [Form.exec, rotateTarget, resetBit, setBit]
    exact unobserves_readTarget x fun _ _ => unobserves_writeTarget x _ fun _ => unobserves_next rfl
  | bit n x =>
    unfold Form.exec testBit
    exact unobserves_readTarget x fun _ _ => unobserves_next rfl
  | jrCc | jpCc => exact unobserves_ite (unobserves_next rfl) (unobserves_next rfl)
  | call | rst => exact unobserves_callTo _ s
  | callCc => exact unobserves_ite (unobserves_callTo _ s) (unobserves_next rfl)
  | ret | reti => exact unobserves_returnFromCall s
  | retCc => exact unobserves_ite (unobserves_returnFromCall s.internal) (unobserves_next rfl)
  | illegal => exact fun _ h => nomatch h
  | _ => exact unobserves_next rfl

/-- Settles O24: fetch and meaning go on without the callback as with it. -/
theorem callbackDoesNotInterfere : Obligations.CallbackDoesNotInterfere := by
  intro s t h
  have hexec (i : Instr) (u : State) : Unobserves (exec i u) (exec i u.unobserved) := by
    rw [exec_eq_form, exec_eq_form]; exact i.form.unobserves_exec u
  have hstep : Unobserves (step s) (step s.unobserved) :=
    unobserves_ite (unobserves_fetchInstr (s := s.beginStep) hexec) fun _ h => nomatch h
  exact hstep t h

end Sys2Proof
end

section
/-! PROOFS (the family 30_encoding.md). The decoder said once: the cell of the first byte's opcode reads the operand bytes
(R100, R107, R108). -/

namespace Sys2Proof

/-! ### What a cell reads -/

/-- A cell of the primary map makes this instruction of exactly these operand bytes (R100, R105, R108). -/
inductive Row.Reads : Row → List Byte → Instr → Prop
  | op (i : Instr) : Row.Reads (.op i) [] i
  | opN (mk : Byte → Instr) (n : Byte) : Row.Reads (.opN mk) [n] (mk n)
  | opE (mk : Byte → Instr) (e : Byte) : Row.Reads (.opE mk) [e] (mk e)
  | opNN (mk : Word → Instr) (lo hi : Byte) : Row.Reads (.opNN mk) [lo, hi] (mk (wordOf hi lo))
  | cb {o2 : Byte} {i : Instr} (h : mapCell cbMap o2 = some i) : Row.Reads .cb [o2] i

/-- The decoder answers an instruction exactly when the cell of the first byte reads it from the bytes that follow. -/
theorem decode_eq_ok_iff {bytes rest : List Byte} {i : Instr} :
    decode bytes = .ok (i, rest) ↔
      ∃ o ops row, bytes = o :: (ops ++ rest) ∧ mapCell primaryMap o = some row ∧ row.Reads ops i := by
  constructor
  · intro h
    unfold decode at h
    split at h
    case h_1 => cases h
    case h_2 o bytes =>
      split at h
      case h_1 j hrow => cases h; exact ⟨o, [], _, rfl, hrow, .op _⟩
      case h_2 mk n _ hrow => cases h; exact ⟨o, [n], _, rfl, hrow, .opN mk n⟩
      case h_3 mk e _ hrow => cases h; exact ⟨o, [e], _, rfl, hrow, .opE mk e⟩
      case h_4 mk lo hi _ hrow => cases h; exact ⟨o, [lo, hi], _, rfl, hrow, .opNN mk lo hi⟩
      case h_5 o2 _ hrow =>
        split at h
        case h_1 j hcell => cases h; exact ⟨o, [o2], _, rfl, hrow, .cb hcell⟩
        case h_2 => cases h
      case h_6 => cases h
      case h_7 => cases h
  · rintro ⟨o, ops, row, rfl, hrow, hreads⟩
    cases hreads with
    | cb hcell => simp [decode, hrow, hcell]
    | _ => simp [decode, hrow]

/-- The operand bytes a cell reads are as many as its format fixes (R100, R110). -/
theorem Row.Reads.length_eq {row : Row} {ops : List Byte} {i : Instr} (h : row.Reads ops i) :
    row.length = ops.length + 1 := by
  cases h <;> rfl

/-! ### What the cells encode to -/

/-- The instructions of a cell encode to this opcode and their immediate (R100, R101, R105); the cell `cb` is that of
the byte 0xCB. -/
inductive Row.EncodesTo (o : Byte) : Row → Prop
  | op {i : Instr} (h : encode i = [o]) : Row.EncodesTo o (.op i)
  | opN {mk : Byte → Instr} (h : ∀ n, encode (mk n) = [o, n]) : Row.EncodesTo o (.opN mk)
  | opE {mk : Byte → Instr} (h : ∀ e, encode (mk e) = [o, e]) : Row.EncodesTo o (.opE mk)
  | opNN {mk : Word → Instr} (h : ∀ nn, encode (mk nn) = withWord o nn) : Row.EncodesTo o (.opNN mk)
  | cb (h : o = 0xCB) : Row.EncodesTo o .cb

/-- Every byte has a cell, and the field patterns build that byte for it (R101 to R103, R106, R107):
true of each of the 256 cells by evaluation, the immediate left open. -/
theorem mapCell_primaryMap (o : Byte) : ∃ row, mapCell primaryMap o = some row ∧ row.EncodesTo o := by
  have cell (k : Nat) (hk : k < 256) :
      ∃ row, mapCell primaryMap (BitVec.ofNat 8 k) = some row ∧ row.EncodesTo (BitVec.ofNat 8 k) := by
    interval_cases k <;> (refine ⟨_, rfl, ?_⟩; constructor; intros; rfl)
  simpa using cell o.toNat o.isLt

/-- Every byte after 0xCB has a cell, and the field patterns build that byte for it (R101, R102, R108). -/
theorem mapCell_cbMap (o2 : Byte) : ∃ i, mapCell cbMap o2 = some i ∧ encode i = [0xCB, o2] :=
  Option.map_eq_some_iff.mp (by revert o2; decide)

/-- What a cell reads encodes to the opcode and the operand bytes read. -/
theorem Row.Reads.encode_eq {o : Byte} {row : Row} {ops : List Byte} {i : Instr} (h : row.Reads ops i)
    (ho : row.EncodesTo o) : encode i = o :: ops := by
  cases h with
  | op => cases ho with | op h => exact h
  | opN _ n => cases ho with | opN h => exact h n
  | opE _ e => cases ho with | opE h => exact h e
  | opNN _ lo hi => cases ho with | opNN h => simp [h, withWord]
  | cb hcell =>
    cases ho with | cb h =>
    obtain ⟨_, hcell', hencode⟩ := mapCell_cbMap _
    obtain rfl := Option.some.inj (hcell.symm.trans hcell')
    rw [hencode, h]

/-- A cell reads as many operand bytes as its format asks for, where there are that many (R110, R112). -/
theorem Row.exists_reads {row : Row} {bytes : List Byte} (h : row.length ≤ bytes.length + 1) :
    ∃ ops rest i, bytes = ops ++ rest ∧ row.Reads ops i := by
  cases row with
  | op i => exact ⟨[], bytes, i, rfl, .op i⟩
  | opN mk =>
    obtain _ | ⟨n, rest⟩ := bytes
    · simp [Row.length] at h
    · exact ⟨[n], rest, _, rfl, .opN mk n⟩
  | opE mk =>
    obtain _ | ⟨e, rest⟩ := bytes
    · simp [Row.length] at h
    · exact ⟨[e], rest, _, rfl, .opE mk e⟩
  | opNN mk =>
    obtain _ | ⟨lo, _ | ⟨hi, rest⟩⟩ := bytes
    · simp [Row.length] at h
    · simp [Row.length] at h
    · exact ⟨[lo, hi], rest, _, rfl, .opNN mk lo hi⟩
  | cb =>
    obtain _ | ⟨o2, rest⟩ := bytes
    · simp [Row.length] at h
    · obtain ⟨i, hcell, -⟩ := mapCell_cbMap o2
      exact ⟨[o2], rest, i, rfl, .cb hcell⟩

/-- The length known from the first byte is that of its cell (R110). -/
theorem opLength_of_mapCell {o : Byte} {row : Row} (h : mapCell primaryMap o = some row) : opLength o = row.length := by
  simp [opLength, h]

theorem opLength_pos (o : Byte) : 0 < opLength o := by
  obtain ⟨row, hrow, -⟩ := mapCell_primaryMap o
  rw [opLength_of_mapCell hrow]
  cases row <;> simp [Row.length]

theorem opLength_le_three (o : Byte) : opLength o ≤ 3 := by
  obtain ⟨row, hrow, -⟩ := mapCell_primaryMap o
  rw [opLength_of_mapCell hrow]
  cases row <;> simp [Row.length]

end Sys2Proof
end

section
/-! PROOFS (the family 30_encoding.md). Decoder and encoder undo each other (R100 to R109), the decoder is total (R112),
and the illegal bytes are the eleven of R109. -/

namespace Sys2Proof

open Machine

/-! ### Round trips -/

/-- The decoder puts together the word whose bytes the encoder took apart (R105). -/
theorem decode_withWord {o : Byte} {mk : Word → Instr} (h : mapCell primaryMap o = some (.opNN mk)) (nn : Word)
    (rest : List Byte) : decode (withWord o nn ++ rest) = .ok (mk nn, rest) := by
  have hreads := Row.Reads.opNN mk (loByte nn) (hiByte nn)
  rw [wordOf_hiByte_loByte] at hreads
  exact decode_eq_ok_iff.mpr ⟨o, _, _, rfl, h, hreads⟩

/-- Settles O10, one instruction at a time: the byte its field patterns build is that of its own cell; a word is put
together again from its two bytes. -/
theorem decodeOfEncodeIsTheInstruction : Obligations.DecodeOfEncodeIsTheInstruction := by
  intro i rest
  cases i with
  | ld_bc_nn | ld_atNN_sp | ld_de_nn | ld_hl_nn | ld_sp_nn | jp_nz_nn | jp_nn | call_nz_nn | jp_z_nn
  | call_z_nn | call_nn | jp_nc_nn | call_nc_nn | jp_c_nn | call_c_nn | ld_atNN_a | ld_a_atNN =>
    exact decode_withWord rfl _ rest
  | _ => rfl

/-- Settles O11: the cell of the first byte encodes to that byte and the operand bytes it read. -/
theorem encodeOfDecodeIsTheBytes : Obligations.EncodeOfDecodeIsTheBytes := by
  intro bytes rest i h
  obtain ⟨o, ops, row, rfl, hrow, hreads⟩ := decode_eq_ok_iff.mp h
  obtain ⟨row', hrow', hencodes⟩ := mapCell_primaryMap o
  obtain rfl : row = row' := Option.some.inj (hrow.symm.trans hrow')
  rw [hreads.encode_eq hencodes, List.cons_append]

/-- An instruction is as long as its first byte says (R110). -/
theorem length_of_decode {o : Byte} {bytes rest : List Byte} {i : Instr} (h : decode (o :: bytes) = .ok (i, rest)) :
    i.length = opLength o := by
  have hbytes := encodeOfDecodeIsTheBytes _ _ _ h
  obtain ⟨o', ops, row, hcons, hrow, hreads⟩ := decode_eq_ok_iff.mp h
  obtain ⟨rfl, rfl⟩ := List.cons.inj hcons
  rw [← List.cons_append, List.append_cancel_right_eq] at hbytes
  rw [Instr.length, hbytes, opLength_of_mapCell hrow, hreads.length_eq, List.length_cons]

/-! ### Totality -/

/-- Bytes that are as many as the first one asks for begin with an instruction (R110, R112). -/
theorem exists_decode_of_opLength_le {o : Byte} {bytes : List Byte} (h : opLength o ≤ bytes.length + 1) :
    ∃ i rest, decode (o :: bytes) = .ok (i, rest) := by
  obtain ⟨row, hrow, -⟩ := mapCell_primaryMap o
  obtain ⟨ops, rest, i, rfl, hreads⟩ := Row.exists_reads (opLength_of_mapCell hrow ▸ h)
  exact ⟨i, rest, decode_eq_ok_iff.mpr ⟨o, ops, row, rfl, hrow, hreads⟩⟩

/-- No cell of the CB map is an illegal row (R108, R109). -/
theorem mapCell_cbMap_wf (o2 : Byte) : ∃ i, mapCell cbMap o2 = some i ∧ i.wf = true :=
  Option.map_eq_some_iff.mp (by revert o2; decide)

/-- Settles O12: every byte has a cell, which reads what its format asks for; each CB row is well-formed. -/
theorem decoderIsTotal : Obligations.DecoderIsTotal := by
  refine ⟨fun o _ _ => exists_decode_of_opLength_le (opLength_le_three o), fun o2 => ?_,
    fun _ _ => exists_decode_of_opLength_le⟩
  obtain ⟨i, hcell, hwf⟩ := mapCell_cbMap_wf o2
  exact ⟨i, decode_eq_ok_iff.mpr ⟨0xCB, [o2], .cb, rfl, rfl, .cb hcell⟩, hwf⟩

/-! ### The illegal bytes -/

/-- "These eleven bytes are the only illegal encodings" (R109). -/
def illegalBytes : List Byte := [0xD3, 0xDB, 0xDD, 0xE3, 0xE4, 0xEB, 0xEC, 0xED, 0xF4, 0xFC, 0xFD]

/-- An instruction that is not well-formed is the illegal row of one of the eleven bytes. -/
theorem form_of_not_wf {i : Instr} (h : i.wf = false) : ∃ b ∈ illegalBytes, i.form = .illegal b := by
  unfold Instr.wf at h
  split at h
  case h_12 => cases h
  all_goals exact ⟨_, by decide, rfl⟩

/-- Each of the eleven bytes is the encoding of a row that is not well-formed. -/
theorem exists_not_wf_of_illegalByte {o : Byte} (h : o ∈ illegalBytes) : ∃ i : Instr, i.wf = false ∧ encode i = [o] := by
  simp only [illegalBytes, List.mem_cons, List.not_mem_nil, or_false] at h
  rcases h with rfl | rfl | rfl | rfl | rfl | rfl | rfl | rfl | rfl | rfl | rfl
  exacts [⟨.illegal_D3, rfl, rfl⟩, ⟨.illegal_DB, rfl, rfl⟩, ⟨.illegal_DD, rfl, rfl⟩, ⟨.illegal_E3, rfl, rfl⟩,
    ⟨.illegal_E4, rfl, rfl⟩, ⟨.illegal_EB, rfl, rfl⟩, ⟨.illegal_EC, rfl, rfl⟩, ⟨.illegal_ED, rfl, rfl⟩,
    ⟨.illegal_F4, rfl, rfl⟩, ⟨.illegal_FC, rfl, rfl⟩, ⟨.illegal_FD, rfl, rfl⟩]

/-- Settles O13: by the round trips, an illegal row stands at its own byte alone and takes no other. -/
theorem illegalBytesAreTheEleven : Obligations.IllegalBytesAreTheEleven := by
  intro o x y i rest h
  have taken (hwf : i.wf = false) : o ∈ illegalBytes ∧ i.form = .illegal o ∧ rest = [x, y] := by
    obtain ⟨b, hb, hform⟩ := form_of_not_wf hwf
    have hbytes : b :: rest = [o, x, y] := by
      simpa [encode, hform, Form.bytes] using encodeOfDecodeIsTheBytes _ _ _ h
    obtain ⟨rfl, rfl⟩ := List.cons.inj hbytes
    exact ⟨hb, hform, rfl⟩
  refine ⟨⟨fun hwf => (taken hwf).1, fun ho => ?_⟩, fun hwf => ?_⟩
  · obtain ⟨j, hj, hencode⟩ := exists_not_wf_of_illegalByte ho
    have hdecode := decodeOfEncodeIsTheInstruction j [x, y]
    rw [hencode] at hdecode
    cases hdecode.symm.trans h
    exact hj
  · obtain ⟨-, hform, hrest⟩ := taken hwf
    exact ⟨hform, hrest, fun s => ⟨_, by rw [exec_eq_form, hform]; rfl⟩⟩

/-! ### Written-out words and immediates -/

/-- Settles O14: each word is laid out in bytes and decoded by its cell. -/
theorem writtenOutWordsDecode : Obligations.WrittenOutWordsDecode :=
  ⟨rfl, rfl, rfl, rfl, rfl, rfl, rfl, rfl, rfl, rfl, rfl⟩

/-- Settles O15: nn is high byte over low byte, and sign extension keeps the signed number. -/
theorem immediateOperandValues : Obligations.ImmediateOperandValues :=
  ⟨fun lo hi _ => ⟨wordOf hi lo, rfl, toNat_wordOf hi lo⟩, fun _ _ => rfl,
    fun e => ⟨BitVec.toInt_signExtend_of_le (by decide), toNat_sext16 e⟩⟩

end Sys2Proof
end

section
/-! PROOFS (the family 30_encoding.md). Fetching (R104), and the step as the fetch and then the instruction (R111). -/

namespace Sys2Proof

open Machine

namespace Machine

/-! ### What n FetchByte calls do -/

/-- Counting on from the next address is counting one further (D4). -/
theorem addr_succ (addr : Word) (n : Nat) : addr + 1 + BitVec.ofNat 16 n = addr + BitVec.ofNat 16 (n + 1) := by
  rw [BitVec.ofNat_add, BitVec.add_assoc, BitVec.add_comm 1]; rfl

/-- What stands at the addresses from one on: at it, then at those from the next one on. -/
theorem map_range_succ_addr {α : Type} (f : Word → α) (addr : Word) (n : Nat) :
    (List.range (n + 1)).map (fun k => f (addr + BitVec.ofNat 16 k)) =
      f addr :: (List.range n).map fun k => f (addr + 1 + BitVec.ofNat 16 k) := by
  simp only [List.range_succ_eq_map, List.map_cons, List.map_map, Function.comp_def, addr_succ, BitVec.add_zero,
    Nat.succ_eq_add_one]

theorem State.pc_afterFetch (n : Nat) (s : State) : (s.afterFetch n).pc = s.pc + BitVec.ofNat 16 n := by
  induction n generalizing s with
  | zero => exact (BitVec.add_zero _).symm
  | succ n ih => rw [State.afterFetch, ih, State.fetched_pc, addr_succ]

@[simp] theorem State.mem_afterFetch (n : Nat) (s : State) : (s.afterFetch n).mem = s.mem := by
  induction n generalizing s with
  | zero => rfl
  | succ n ih => exact ih s.fetched

theorem State.value_afterFetch_of_ne {q : Register} (hq : q ≠ .pc) (n : Nat) (s : State) :
    (s.afterFetch n).value q = s.value q := by
  induction n generalizing s with
  | zero => rfl
  | succ n ih => simp [State.afterFetch, State.fetched, ih, hq]

/-- Fetching advances PC and changes no other register, no byte of memory and no setting. -/
theorem frame_afterFetch (n : Nat) (s : State) : Frame [.pc] [] s (s.afterFetch n) := by
  obtain ⟨_, -, -, -, -, hsetup⟩ := afterFetch_emits n s
  exact frame_of_keepsOtherRegisters (fun q hq => State.value_afterFetch_of_ne (List.mem_singleton.not.mp hq) n s)
    (State.mem_afterFetch n s) hsetup

/-- On the flat RAM the bytes fetched are those stored from PC on (R60, R67). -/
theorem State.fetchedBytes_of_flatRam {s : State} (h : s.bus = .flatRam) (n : Nat) :
    s.fetchedBytes n = (List.range n).map fun k => Memory.read s.mem (s.pc + BitVec.ofNat 16 k).toNat := by
  induction n generalizing s with
  | zero => rfl
  | succ n ih =>
    rw [State.fetchedBytes, ih (s := s.fetched) h, State.busValue_of_flatRam h]
    exact (map_range_succ_addr (fun x => Memory.read s.mem x.toNat) s.pc n).symm

/-- On the flat RAM fetching emits the read of each byte stored from PC on, in order (R51, R66). -/
theorem State.trace_afterFetch_of_flatRam {s : State} (h : s.bus = .flatRam) (n : Nat) :
    (s.afterFetch n).trace = s.trace ++ (List.range n).map fun k =>
      Tick.read (s.pc + BitVec.ofNat 16 k) (Memory.read s.mem (s.pc + BitVec.ofNat 16 k).toNat) := by
  induction n generalizing s with
  | zero => exact (List.append_nil _).symm
  | succ n ih =>
    rw [State.afterFetch, ih (s := s.fetched) h, State.fetched_trace, State.busValue_of_flatRam h, List.append_assoc,
      map_range_succ_addr fun x => Tick.read x (Memory.read s.mem x.toNat)]
    rfl

end Machine

/-- Settles O17: the step begins with an empty trace, and each FetchByte adds its byte and its read. -/
theorem fetchReadsProgramBytesInOrder : Obligations.FetchReadsProgramBytesInOrder := fun s n h =>
  ⟨State.fetchedBytes_of_flatRam (s := s.beginStep) h n, State.pc_afterFetch n s.beginStep,
    State.trace_afterFetch_of_flatRam (s := s.beginStep) h n, State.mem_afterFetch n s.beginStep,
    frame_afterFetch n s.beginStep⟩

/-- Settles O16: the fetch reads as many bytes as the first one says, which is the length of what they decode to. -/
theorem stepRunsDecodedInstruction : Obligations.StepRunsDecodedInstruction := by
  intro s i rest hreset hbus hdecode
  have hone : opLength (s.busValue s.pc) - 1 + 1 = opLength (s.busValue s.pc) := Nat.sub_add_cancel (opLength_pos _)
  have hlength : i.length = opLength (s.busValue s.pc) - 1 + 1 := by
    rw [← hone] at hdecode
    rw [hone]
    exact length_of_decode hdecode
  rw [step, if_pos hreset, hlength]
  exact fetchInstr_ok (s := s.beginStep) hbus exec (hone.symm ▸ hdecode)

end Sys2Proof
end

section
/-! PROOFS (the family 40_loads8.md). What the answers of all forms have in common, said once: on a bus that does not fault
every instruction with a meaning completes in the `after` of its form, and nothing outside the form's frame changes. -/

namespace Sys2Proof

open Machine

/-- The frame of a form: its `after` changes the registers the form writes and the bytes it stores to, and nothing
else. -/
theorem Form.frame_after (form : Form) (s : State) : Frame form.writes (form.stores s) s (form.after s) := by
  obtain ⟨_, ⟨-, -, -, hmem, hsetup⟩, hstores⟩ := form.stores_after s
  exact ⟨form.keepsOtherRegisters_after s, hstores ▸ hmem, hsetup⟩

namespace Machine

/-! ### The state each operation completes in, on a bus that does not fault -/

section
variable {s : State} (hbus : s.busMayFault = false)
include hbus

theorem loadRegAt_ok (dst : Reg8) (addr : Word) :
    loadRegAt dst addr s = .next ((s.afterRead addr).setReg8 dst (s.busValue addr)) := memRead_ok hbus _ _

theorem loadAStepHL_ok (delta : Word) :
    loadAStepHL delta s = .next (((s.afterRead s.hl).setReg8 .a (s.busValue s.hl)).setHL (s.hl + delta)) :=
  memRead_ok hbus _ _

theorem storeAt_ok (addr : Word) (v : Byte) : storeAt addr v s = .next (s.afterWrite addr v) := memWrite_ok hbus _ _ _

theorem storeAStepHL_ok (delta : Word) :
    storeAStepHL delta s = .next ((s.afterWrite s.hl s.a).setHL (s.hl + delta)) := memWrite_ok hbus _ _ _

theorem callTo_ok (nn : Word) : callTo nn s = .next ((s.internal.afterPush s.pc).setPC nn) :=
  push16_ok (s := s.internal) hbus _ _

theorem returnFromCall_ok : returnFromCall s = .next (s.afterPop.internal.setPC s.popValue) := pop16_ok hbus _

end

@[simp] theorem State.busMayFault_afterTarget (x : Target8) (s : State) :
    (s.afterTarget x).busMayFault = s.busMayFault := by
  cases x <;> rfl

/-- A conditional operation of which both branches complete. -/
theorem ite_ok {c : Prop} [Decidable c] {yes : Result} {u v : State} (hyes : yes = .next u) :
    (if c then yes else .next v) = .next (if c then u else v) := by
  rw [hyes, apply_ite Host.Outcome.next]

end Machine

/-- On a bus that does not fault a form's meaning answers its `after`; only an illegal byte has none (R109). -/
theorem Form.exec_ok {form : Form} {s : State} (hbus : s.busMayFault = false) (hform : ∀ b, form ≠ .illegal b) :
    form.exec s = .next (form.after s) := by
  cases form with
  | ldRAtHL | ldAAtBC | ldAAtDE | ldAAtNN | ldhAAtN | ldhAAtC => exact loadRegAt_ok hbus _ _
  | ldAAtHLInc | ldAAtHLDec => exact loadAStepHL_ok hbus _
  | ldAtHLR | ldAtHLN | ldAtBCA | ldAtDEA | ldAtNNA | ldhAtNA | ldhAtCA => exact storeAt_ok hbus _ _
  | ldAtHLIncA | ldAtHLDecA => exact storeAStepHL_ok hbus _
  | ldAtNNSP => simp [Form.exec, Form.after, storeSPAt, memWrite_ok, hbus]
  | push => simp [Form.exec, Form.after, pushPair, push16_ok, hbus]
  | pop => simp [Form.exec, Form.after, popPair, pop16_ok, hbus]
  | alu op x => cases op <;> simp [Form.exec, Form.after, State.setAluFlags, aluA, compareA, readSource_ok, hbus]
  | incAtHL => simp [Form.exec, Form.after, Machine.incAtHL, memRead_ok, memWrite_ok, hbus]
  | decAtHL => simp [Form.exec, Form.after, Machine.decAtHL, memRead_ok, memWrite_ok, hbus]
  | rot => simp [Form.exec, Form.after, rotateTarget, readTarget_ok, writeTarget_ok, hbus]
  | bit => simp [Form.exec, Form.after, testBit, readTarget_ok, hbus]
  | res => simp [Form.exec, Form.after, resetBit, readTarget_ok, writeTarget_ok, hbus]
  | set => simp [Form.exec, Form.after, setBit, readTarget_ok, writeTarget_ok, hbus]
  | call | rst => exact callTo_ok hbus _
  | ret | reti => exact returnFromCall_ok hbus
  | jrCc | jpCc => exact ite_ok rfl
  | callCc => exact ite_ok (callTo_ok hbus _)
  | retCc => exact ite_ok (returnFromCall_ok (s := s.internal) hbus)
  | illegal b => exact absurd rfl (hform b)
  | _ => rfl

/-- On a bus that does not fault an instruction with a meaning answers the `after` of its form. -/
theorem Machine.exec_ok {i : Instr} {form : Form} {s : State} (hbus : s.busMayFault = false) (hi : i.form = form)
    (hform : ∀ b, form ≠ .illegal b) : exec i s = .next (form.after s) := by
  rw [exec_eq_form, hi, Form.exec_ok hbus hform]

end Sys2Proof
end

section
/-! PROOFS (the family 40_loads8.md). The 8-bit loads (R140 to R158): each completes in the `after` of its form, within
the form's frame; what is left to see in that state is the byte loaded or held, and the one tick of an access. -/

namespace Sys2Proof

open Machine

/-- Settles O30: the copy makes no access, so it completes on every bus. -/
theorem ldRegRegCopies : Obligations.LdRegRegCopies := by
  intro i dst src s hi
  have hexec : exec i s = .next ((Form.ldRR dst src).after s) := by rw [exec_eq_form, hi]; rfl
  exact ⟨_, hexec, by simp [Form.after], by simp [Form.after], (Form.ldRR dst src).frame_after s⟩

/-- Settles O31: the load of an immediate makes no access, so it completes on every bus. -/
theorem ldRegImmLoads : Obligations.LdRegImmLoads := by
  intro i dst n s hi
  have hexec : exec i s = .next ((Form.ldRN dst n).after s) := by rw [exec_eq_form, hi]; rfl
  exact ⟨_, hexec, by simp [Form.after], by simp [Form.after], (Form.ldRN dst n).frame_after s⟩

/-- Settles O32: the byte read at the HL before goes into the destination, H and L included. -/
theorem ldRegAtHLLoads : Obligations.LdRegAtHLLoads := by
  intro i dst s hi hbus
  exact ⟨_, exec_ok hbus hi nofun, by simp [Form.after], by simp [Form.after], (Form.ldRAtHL dst).frame_after s⟩

/-- Settles O33: the one write is at HL, and the flat RAM holds its byte. -/
theorem storeAtHLWritesByte : Obligations.StoreAtHLWritesByte :=
  ⟨fun _ src s hi hbus =>
    ⟨_, exec_ok hbus hi nofun, rfl, holdsByte_afterWrite s.hl (s.reg8 src) s, (Form.ldAtHLR src).frame_after s⟩,
  fun n s hbus => ⟨_, exec_ok hbus rfl nofun, rfl, holdsByte_afterWrite s.hl n s, (Form.ldAtHLN n).frame_after s⟩⟩

/-- Settles O34: the same load of A from three addresses. -/
theorem ldAIndirectLoads : Obligations.LdAIndirectLoads := fun s hbus =>
  ⟨⟨_, exec_ok hbus rfl nofun, rfl, rfl, Form.ldAAtBC.frame_after s⟩,
    ⟨_, exec_ok hbus rfl nofun, rfl, rfl, Form.ldAAtDE.frame_after s⟩,
    fun nn => ⟨_, exec_ok hbus rfl nofun, rfl, rfl, (Form.ldAAtNN nn).frame_after s⟩⟩

/-- Settles O35: the same store of A to three addresses. -/
theorem storeAIndirectWrites : Obligations.StoreAIndirectWrites := fun s hbus =>
  ⟨⟨_, exec_ok hbus rfl nofun, rfl, holdsByte_afterWrite s.bc s.a s, Form.ldAtBCA.frame_after s⟩,
    ⟨_, exec_ok hbus rfl nofun, rfl, holdsByte_afterWrite s.de s.a s, Form.ldAtDEA.frame_after s⟩,
    fun nn => ⟨_, exec_ok hbus rfl nofun, rfl, holdsByte_afterWrite nn s.a s, (Form.ldAtNNA nn).frame_after s⟩⟩

@[simp] theorem Machine.State.hl_setHL (v : Word) (s : State) : (s.setHL v).hl = v := wordOf_hiByte_loByte v

/-- The step of HL (R151 to R154): what is written to HL is read from it, a sum modulo 2^16 (D4). -/
theorem Machine.State.toNat_hl_setHL_add (hl delta : Word) (s : State) :
    (s.setHL (hl + delta)).hl.toNat = (hl.toNat + delta.toNat) % 65536 := by
  rw [State.hl_setHL, BitVec.toNat_add]

/-- Settles O36: the access is at the HL before, then HL takes the sum with 1 or with 65535. -/
theorem hlStepLoadsAndStores : Obligations.HLStepLoadsAndStores := fun s hbus =>
  ⟨⟨_, exec_ok hbus rfl nofun, rfl, State.toNat_hl_setHL_add s.hl 1 _, rfl, Form.ldAAtHLInc.frame_after s⟩,
    ⟨_, exec_ok hbus rfl nofun, rfl, State.toNat_hl_setHL_add s.hl (-1) _, rfl, Form.ldAAtHLDec.frame_after s⟩,
    ⟨_, exec_ok hbus rfl nofun, State.toNat_hl_setHL_add s.hl 1 _, rfl, holdsByte_afterWrite s.hl s.a s,
      Form.ldAtHLIncA.frame_after s⟩,
    ⟨_, exec_ok hbus rfl nofun, State.toNat_hl_setHL_add s.hl (-1) _, rfl, holdsByte_afterWrite s.hl s.a s,
      Form.ldAtHLDecA.frame_after s⟩⟩

/-- The high page (R61): n is unsigned and the sum does not wrap. -/
theorem Machine.toNat_highPage (n : Byte) : (highPage n).toNat = 0xFF00 + n.toNat := by
  have hn := n.isLt
  rw [highPage, BitVec.toNat_add, BitVec.toNat_setWidth]
  simp only [BitVec.reduceToNat]
  omega

/-- Settles O37: the load of A and the store of A at a high-page address. -/
theorem highPageLoadsAndStores : Obligations.HighPageLoadsAndStores :=
  ⟨toNat_highPage, fun s hbus =>
    ⟨fun n => ⟨_, exec_ok hbus rfl nofun, rfl, rfl, (Form.ldhAAtN n).frame_after s⟩,
      fun n =>
        ⟨_, exec_ok hbus rfl nofun, rfl, holdsByte_afterWrite (highPage n) s.a s, (Form.ldhAtNA n).frame_after s⟩,
      ⟨_, exec_ok hbus rfl nofun, rfl, rfl, Form.ldhAAtC.frame_after s⟩,
      ⟨_, exec_ok hbus rfl nofun, rfl, holdsByte_afterWrite (highPage s.c) s.a s, Form.ldhAtCA.frame_after s⟩⟩⟩

end Sys2Proof
end


section
/-! PROOFS (the family 41_loads16.md). What the 16-bit loads are made of, said once: the signed sum with SP and its carries
(R170), a pair read back, two bytes written one after the other, the state after a push and after a pop (R177, R178). -/

namespace Sys2Proof

open Machine

/-! ### Sums modulo 2^16 (D4) -/

theorem sub_one_sub_one (x : Word) : x - 1 - 1 = x - 2 := sub_sub x 1 1

theorem add_one_add_one (x : Word) : x + 1 + 1 = x + 2 := add_assoc x 1 1

theorem sub_two_add_one (x : Word) : x - 2 + 1 = x - 1 := by
  rw [← sub_one_sub_one, sub_add_cancel]

theorem sub_two_ne_sub_one (x : Word) : x - 2 ≠ x - 1 := fun h => absurd (sub_right_injective h) (by decide)

theorem add_one_ne_self (x : Word) : x + 1 ≠ x := fun h => absurd (add_eq_left.mp h) (by decide)

/-- A sum with a sign-extended byte (R105) is the signed sum modulo 2^16. -/
theorem toNat_add_sext16 (x : Word) (e : Byte) : ((x + sext16 e).toNat : Int) = ((x.toNat : Int) + e.toInt) % 65536 := by
  rw [BitVec.toNat_add, toNat_sext16, BitVec.toInt_eq_toNat_cond]
  split <;> split <;> omega

/-- Sign extension keeps the low byte. -/
theorem toNat_sext16_mod (e : Byte) : (sext16 e).toNat % 256 = e.toNat := by
  rw [toNat_sext16]
  split <;> omega

/-- Bit i of `x ^ y ^ (x + y)` is the carry into bit i of the sum. -/
theorem getLsbD_xor_xor_add {w i : Nat} (hi : i < w) (x y : BitVec w) :
    (x ^^^ y ^^^ (x + y)).getLsbD i = BitVec.carry i x y false := by
  rw [BitVec.getLsbD_xor, BitVec.getLsbD_xor, BitVec.getLsbD_add hi]
  cases x.getLsbD i <;> cases y.getLsbD i <;> simp

/-- Within the low byte and out of it, sign extension does not show: the carry is that of the unsigned sum. -/
theorem carry_sext16 {i : Nat} (hi : i ≤ 8) (x : Word) (e : Byte) :
    BitVec.carry i x (sext16 e) false = decide (x.toNat % 2 ^ i + e.toNat % 2 ^ i ≥ 2 ^ i) := by
  have hdvd : 2 ^ i ∣ 256 := pow_dvd_pow 2 hi
  have hlow : (sext16 e).toNat % 2 ^ i = e.toNat % 2 ^ i := by rw [← Nat.mod_mod_of_dvd _ hdvd, toNat_sext16_mod]
  rw [BitVec.carry, hlow]
  rfl

namespace Machine

/-- H of `AddSPe` (R170, 90_conflicts.md C4) is the carry out of bit 3 of the unsigned low-byte sum. -/
theorem addSPe_half (sp : Word) (e : Byte) : (addSPe sp e).2.1 = decide (sp.toNat % 16 + e.toNat % 16 > 0x0F) :=
  (getLsbD_xor_xor_add (by decide) sp (sext16 e)).trans (carry_sext16 (by decide) sp e)

/-- C of `AddSPe` (R170, 90_conflicts.md C4) is the carry out of bit 7 of the unsigned low-byte sum. -/
theorem addSPe_carry (sp : Word) (e : Byte) : (addSPe sp e).2.2 = decide (sp.toNat % 256 + e.toNat > 0xFF) := by
  refine (getLsbD_xor_xor_add (by decide) sp (sext16 e)).trans ((carry_sext16 (by decide) sp e).trans ?_)
  rw [Nat.mod_eq_of_lt e.isLt]
  rfl

/-- The result of `AddSPe` (R170) is the signed sum modulo 2^16. -/
theorem toNat_addSPe (sp : Word) (e : Byte) : ((addSPe sp e).1.toNat : Int) = ((sp.toNat : Int) + e.toInt) % 65536 :=
  toNat_add_sext16 sp e

/-! ### A pair read back after it was written (R21) -/

@[simp] theorem State.reg16_setReg16_same (rr : Reg16) (v : Word) (s : State) : (s.setReg16 rr v).reg16 rr = v := by
  cases rr with
  | sp => rfl
  | _ => exact wordOf_hiByte_loByte v

theorem State.pair_setPair_of_ne_af {p : StackPair} (hp : p ≠ .af) (v : Word) (s : State) :
    (s.setPair p v).pair p = v := by
  cases p with
  | af => exact absurd rfl hp
  | _ => exact wordOf_hiByte_loByte v

/-- The mask of F (R22) takes nothing from a byte whose low nibble is zero. -/
theorem masked_of_lowNibble {v : Byte} (h : v &&& 0x0F = 0) : v &&& 0xF0 = v := by
  revert v; decide

/-- A pair takes back the value it had, in any state: AF too, if F's low nibble is zero. -/
theorem State.pair_setPair_pair {s : State} (hf : s.f &&& 0x0F = 0) (p : StackPair) (t : State) :
    (t.setPair p (s.pair p)).pair p = s.pair p := by
  cases p with
  | af =>
    have hhigh : hiByte s.af = s.a := hiByte_wordOf s.a s.f
    have hlow : loByte s.af &&& 0xF0 = s.f := by rw [State.af, loByte_wordOf, masked_of_lowNibble hf]
    exact congrArg₂ wordOf hhigh hlow
  | _ => exact State.pair_setPair_of_ne_af (by decide) _ t

/-! ### Two bytes written one after the other -/

/-- After a write on the flat RAM the address holds the byte, whatever was done before it on the same bus. -/
theorem holdsByte_afterWrite_of_bus_eq {s t : State} (hbus : t.bus = s.bus) (addr : Word) (v : Byte) :
    HoldsByte addr v s (t.afterWrite addr v) := fun h => holdsByte_afterWrite addr v t (hbus.trans h)

/-- A write at another address leaves the byte held at this one. -/
theorem holdsByte_afterWrite_of_ne {addr other : Word} {v : Byte} {s t : State} (h : HoldsByte addr v s t)
    (hne : other ≠ addr) (w : Byte) : HoldsByte addr v s (t.afterWrite other w) := by
  intro hbus
  rw [State.read_afterWrite, if_neg fun hw => hne (BitVec.eq_of_toNat_eq hw.2), h hbus]

/-! ### The stack (R177, R178) -/

@[simp] theorem State.sp_afterPush (v : Word) (s : State) : (s.afterPush v).sp = s.sp - 2 := sub_one_sub_one s.sp

@[simp] theorem State.trace_afterPush (v : Word) (s : State) :
    (s.afterPush v).trace = s.trace ++ [.write (s.sp - 1) (hiByte v), .write (s.sp - 2) (loByte v)] := by
  rw [State.afterPush, sub_one_sub_one]
  simp

/-- After a push the low byte is held at SP - 2, where it was written last. -/
theorem holdsByte_low_afterPush (v : Word) (s : State) : HoldsByte (s.sp - 2) (loByte v) s (s.afterPush v) := by
  rw [State.afterPush, sub_one_sub_one]
  exact holdsByte_afterWrite_of_bus_eq (by rfl) (s.sp - 2) (loByte v)

/-- After a push the high byte is held at SP - 1: the low byte went to another address. -/
theorem holdsByte_high_afterPush (v : Word) (s : State) : HoldsByte (s.sp - 1) (hiByte v) s (s.afterPush v) := by
  have hhigh : HoldsByte (s.sp - 1) (hiByte v) s ((s.setSP (s.sp - 1)).afterWrite (s.sp - 1) (hiByte v)) :=
    holdsByte_afterWrite_of_bus_eq (by rfl) (s.sp - 1) (hiByte v)
  rw [State.afterPush, sub_one_sub_one]
  exact holdsByte_afterWrite_of_ne (t := State.setSP (s.sp - 2) _) hhigh (sub_two_ne_sub_one s.sp) (loByte v)

@[simp] theorem State.sp_afterPop (s : State) : s.afterPop.sp = s.sp + 2 := add_one_add_one s.sp

@[simp] theorem State.trace_afterPop (s : State) :
    s.afterPop.trace = s.trace ++ [.read s.sp (s.busValue s.sp),
      .read (s.sp + 1) ((s.afterRead s.sp).busValue (s.sp + 1))] := by
  simp [State.afterPop]

/-- On the flat RAM a pop returns the two bytes held at SP and SP + 1. -/
theorem State.popValue_of_flatRam {s : State} (h : s.bus = .flatRam) :
    s.popValue = wordOf (Memory.read s.mem (s.sp + 1).toNat) (Memory.read s.mem s.sp.toNat) := by
  rw [State.popValue, State.busValue_of_flatRam h, State.busValue_of_flatRam (s := s.afterRead s.sp) h]
  rfl

/-- On the flat RAM a pop after a push returns the word pushed. -/
theorem State.popValue_afterPush {s : State} (h : s.bus = .flatRam) (v : Word) : (s.afterPush v).popValue = v := by
  rw [State.popValue_of_flatRam (s := s.afterPush v) h, State.sp_afterPush, sub_two_add_one,
    holdsByte_high_afterPush v s h, holdsByte_low_afterPush v s h, wordOf_hiByte_loByte]

end Machine

/-- No form changes which bus the core is bound to. -/
theorem Form.bus_after (form : Form) (s : State) : (form.after s).bus = s.bus := by
  obtain ⟨-, -, hbus, -⟩ := form.frame_after s
  exact hbus

end Sys2Proof
end

section
/-! PROOFS (the family 41_loads16.md). The 16-bit loads (R171 to R176) and ADD SP,e (R223): each completes in the `after` of
its form, within the form's frame. -/

namespace Sys2Proof

open Machine

/-- Settles O38: the load of an immediate makes no access, so it completes on every bus. -/
theorem ldPairImmLoads : Obligations.LdPairImmLoads := by
  intro i rr nn s hi
  have hexec : exec i s = .next ((Form.ldRRNN rr nn).after s) := by rw [exec_eq_form, hi]; rfl
  exact ⟨_, hexec, State.reg16_setReg16_same rr nn s, State.setReg16_trace rr nn s, (Form.ldRRNN rr nn).frame_after s⟩

/-- Settles O39: the two addresses differ, so the flat RAM holds both bytes. -/
theorem storeSPWritesLowThenHigh : Obligations.StoreSPWritesLowThenHigh := by
  intro nn s hbus
  have hlow := holdsByte_afterWrite nn (loByte s.sp) s
  exact ⟨(Form.ldAtNNSP nn).after s, exec_ok hbus rfl nofun, by simp [Form.after],
    holdsByte_afterWrite_of_ne hlow (add_one_ne_self nn) (hiByte s.sp),
    holdsByte_afterWrite_of_bus_eq (by rfl) (nn + 1) (hiByte s.sp), (Form.ldAtNNSP nn).frame_after s⟩

/-- Settles O40: the copy makes no access, so it completes on every bus. -/
theorem ldSPHLCopies : Obligations.LdSPHLCopies := fun s =>
  ⟨Form.ldSPHL.after s, rfl, rfl, rfl, Form.ldSPHL.frame_after s⟩

/-- Settles O41: both instructions take the sum and the carries of `AddSPe`; they make no access. -/
theorem spPlusESumsAndFlags : Obligations.SPPlusESumsAndFlags := by
  intro e s
  have hsum := toNat_addSPe s.sp e
  have hhalf := addSPe_half s.sp e
  have hcarry := addSPe_carry s.sp e
  constructor
  · have hhl : ((Form.ldHLSPE e).after s).hl = (addSPe s.sp e).1 := State.hl_setHL _ s.internal
    exact ⟨(Form.ldHLSPE e).after s, rfl, by rw [hhl, hsum], State.flag_setFlags .z .., State.flag_setFlags .n ..,
      (State.flag_setFlags .h ..).trans hhalf, (State.flag_setFlags .c ..).trans hcarry, rfl,
      (Form.ldHLSPE e).frame_after s⟩
  · exact ⟨(Form.addSPE e).after s, rfl, hsum, State.flag_setFlags .z .., State.flag_setFlags .n ..,
      (State.flag_setFlags .h ..).trans hhalf, (State.flag_setFlags .c ..).trans hcarry, by simp [Form.after],
      (Form.addSPE e).frame_after s⟩

/-- Settles O42: the internal tick, then the push. -/
theorem pushWritesHighThenLow : Obligations.PushWritesHighThenLow := by
  intro i p s hi hbus
  exact ⟨_, exec_ok hbus hi nofun, State.sp_afterPush (s.pair p) s.internal, by simp [Form.after],
    holdsByte_high_afterPush (s.pair p) s.internal, holdsByte_low_afterPush (s.pair p) s.internal,
    (Form.push p).frame_after s⟩

/-- Settles O43: the pop, then the write of the pair, which for AF masks F (R22). -/
theorem popReadsLowThenHigh : Obligations.PopReadsLowThenHigh := by
  intro i p s hi hbus
  refine ⟨_, _, _, exec_ok hbus hi nofun, rfl, rfl, fun hp => State.pair_setPair_of_ne_af hp s.popValue s.afterPop, ?_,
    by simp [Form.after], by simp [Form.after], (Form.pop p).frame_after s⟩
  rintro rfl
  exact ⟨hiByte_wordOf _ _, congrArg (· &&& 0xF0) (loByte_wordOf _ _)⟩

/-- Settles O44: the pop returns the word pushed, and SP comes back up. -/
theorem pushPopAndCallReturnRestore : Obligations.PushPopAndCallReturnRestore := by
  constructor
  · intro i j p s hi hj hbus hf
    have hpush : exec i s = .next ((Form.push p).after s) := exec_ok (State.busMayFault_of_flatRam hbus) hi nofun
    have hpop : exec j ((Form.push p).after s) = .next ((Form.pop p).after ((Form.push p).after s)) :=
      exec_ok (State.busMayFault_of_flatRam ((Form.bus_after _ s).trans hbus)) hj nofun
    have hvalue : ((Form.push p).after s).popValue = s.pair p :=
      State.popValue_afterPush (s := s.internal) hbus (s.pair p)
    refine ⟨_, _, hpush, hpop, ?_, by simp [Form.after]⟩
    calc _ = (((Form.push p).after s).afterPop.setPair p (s.pair p)).pair p := by rw [← hvalue]; rfl
      _ = s.pair p := State.pair_setPair_pair hf p _
  · intro nn s hbus
    have hcall : exec (.call_nn nn) s = .next ((Form.call nn).after s) :=
      exec_ok (State.busMayFault_of_flatRam hbus) rfl nofun
    have hret : exec .ret ((Form.call nn).after s) = .next (Form.ret.after ((Form.call nn).after s)) :=
      exec_ok (State.busMayFault_of_flatRam ((Form.bus_after _ s).trans hbus)) rfl nofun
    have hvalue : ((Form.call nn).after s).popValue = s.pc := State.popValue_afterPush (s := s.internal) hbus s.pc
    exact ⟨_, _, hcall, rfl, hret, hvalue, by simp [Form.after]⟩

end Sys2Proof
end

section
/-! PROOFS (the family 42_alu8.md). The 8-bit results and their flags as numbers (R191, R192, R197 to R204). -/

namespace Sys2Proof

open Machine

namespace Machine

/-! ### Bytes as numbers -/

/-- Z of a result (R191): the byte is zero when its number is. -/
theorem beq_zero_eq_decide (v : Byte) : (v == 0) = decide (v.toNat = 0) := by
  rw [beq_eq_decide, decide_eq_decide]
  exact BitVec.toNat_inj.symm

/-- The test of a low nibble (R201, R203): the byte modulo 16. -/
theorem lowNibble_beq_eq_decide (v k : Byte) : (v &&& 0x0F == k) = decide (v.toNat % 16 = k.toNat) := by
  have hlow : (v &&& 0x0F).toNat = v.toNat % 16 := Nat.and_two_pow_sub_one_eq_mod v.toNat 4
  rw [beq_eq_decide, decide_eq_decide, ← hlow]
  exact BitVec.toNat_inj.symm

theorem toNat_add_one (v : Byte) : (v + 1).toNat = (v.toNat + 1) % 256 := BitVec.toNat_add v 1

theorem toNat_sub_one (v : Byte) : (v - 1).toNat = (v.toNat + 255) % 256 := by
  rw [sub_eq_add_neg]
  exact BitVec.toNat_add v (-1)

/-! ### The results of the ALU operations -/

/-- ADD takes no carry in, ADC the C flag (R193, R194). -/
theorem aluOut_eq_add8 {op : AluOp} (hop : op = .add ∨ op = .adc) (a x : Byte) (c : Bool) :
    aluOut op a x c = add8 a x (decide (op = .adc ∧ c = true)) := by
  obtain rfl | rfl := hop <;> simp [aluOut]

/-- SUB and CP take no carry in, SBC the C flag (R195, R196, R200). -/
theorem aluOut_eq_sub8 {op : AluOp} (hop : op = .sub ∨ op = .sbc ∨ op = .cp) (a x : Byte) (c : Bool) :
    aluOut op a x c = sub8 a x (decide (op = .sbc ∧ c = true)) := by
  obtain rfl | rfl | rfl := hop <;> simp [aluOut]

/-- `Add8` (R191) is the sum modulo 2^8. -/
theorem toNat_add8_res (a x : Byte) (cin : Bool) :
    (add8 a x cin).res.toNat = (a.toNat + x.toNat + cin.toNat) % 256 :=
  BitVec.toNat_ofNat _ 8

/-- `Sub8` (R192) is the difference modulo 2^8. -/
theorem toNat_sub8_res (a x : Byte) (cin : Bool) :
    ((sub8 a x cin).res.toNat : Int) = ((a.toNat : Int) - x.toNat - cin.toNat) % 256 := by
  have ha := a.isLt
  have hx := x.isLt
  have hcin := cin.toNat_le
  simp only [sub8, BitVec.toNat_sub, BitVec.toNat_ofNat]
  omega

/-- AND, XOR and OR give a logical result, with H for AND only (R197 to R199). -/
theorem aluOut_eq_logic8 {op : AluOp} (hop : op = .and ∨ op = .xor ∨ op = .or) (a x : Byte) (c : Bool) :
    aluOut op a x c = logic8 (aluOut op a x c).res (decide (op = .and)) := by
  obtain rfl | rfl | rfl := hop <;> rfl

/-! ### The flags after an operation -/

/-- A flag of an 8-bit result. -/
def AluOut.flag (out : AluOut) : Flag → Bool
  | .z => out.z
  | .n => out.n
  | .h => out.h
  | .c => out.c

theorem State.flag_setAluFlags (y : Flag) (out : AluOut) (s : State) : (s.setAluFlags out).flag y = out.flag y := by
  rw [State.setAluFlags, State.flag_setFlags]
  cases y <;> rfl

/-- The flags of INC (R201, R202). -/
theorem State.flags_setIncFlags (v : Byte) (s : State) :
    (s.setIncFlags v).flag .z = decide (v.toNat = 0) ∧ (s.setIncFlags v).flag .n = false ∧
      (s.setIncFlags v).flag .h = decide (v.toNat % 16 = 0) ∧ (s.setIncFlags v).flag .c = s.flag .c :=
  ⟨by simpa [State.setIncFlags] using beq_zero_eq_decide v, by simp [State.setIncFlags],
    by simpa [State.setIncFlags] using lowNibble_beq_eq_decide v 0x00, by simp [State.setIncFlags]⟩

/-- The flags of DEC (R203, R204). -/
theorem State.flags_setDecFlags (v : Byte) (s : State) :
    (s.setDecFlags v).flag .z = decide (v.toNat = 0) ∧ (s.setDecFlags v).flag .n = true ∧
      (s.setDecFlags v).flag .h = decide (v.toNat % 16 = 15) ∧ (s.setDecFlags v).flag .c = s.flag .c :=
  ⟨by simpa [State.setDecFlags] using beq_zero_eq_decide v, by simp [State.setDecFlags],
    by simpa [State.setDecFlags] using lowNibble_beq_eq_decide v 0x0F, by simp [State.setDecFlags]⟩

theorem State.trace_afterSource (x : Source8) (s : State) : (s.afterSource x).trace = s.trace ++ s.sourceTicks x := by
  cases x with
  | atHL => rfl
  | reg | imm => exact (List.append_nil _).symm

/-- The registers a frame lists may be more than were written. -/
theorem frame_mono {ws ws' : List Register} {vs : List Word} {s t : State} (hsub : ws ⊆ ws') (h : Frame ws vs s t) :
    Frame ws' vs s t := by
  obtain ⟨hregs, hmem, hsetup⟩ := h
  exact ⟨fun q hq => hregs q fun hw => hq (hsub hw), hmem, hsetup⟩

/-- What every row `op A,x` does on a bus that does not fault (R190, R193 to R200): the result goes to A, but not that
of CP, its flags to F, and the read of x is all that ticks. -/
theorem exec_alu_ok {i : Instr} {op : AluOp} {x : Source8} {s : State} (hi : i.form = .alu op x)
    (hbus : s.busMayFault = false) {out : AluOut} (hout : aluOut op s.a (s.sourceValue x) (s.flag .c) = out) :
    ∃ t, exec i s = .next t ∧ t.a = (if op = .cp then s.a else out.res) ∧ (∀ y, t.flag y = out.flag y) ∧
      t.trace = s.trace ++ s.sourceTicks x ∧ Frame [.a, .f] [] s t := by
  subst hout
  have hframe := (Form.alu op x).frame_after s
  refine ⟨_, exec_ok hbus hi nofun, ?_⟩
  cases op with
  | cp =>
    have ha : (s.afterSource x).a = s.a := by cases x <;> rfl
    exact ⟨ha, fun y => State.flag_setAluFlags y _ _, State.trace_afterSource x s,
      frame_mono (List.subset_cons_self _ _) hframe⟩
  | _ => exact ⟨rfl, fun y => State.flag_setAluFlags y _ _, State.trace_afterSource x s, hframe⟩

end Machine

end Sys2Proof
end

section
/-! PROOFS (the family 42_alu8.md). 8-bit arithmetic and logic (R193 to R204). -/

namespace Sys2Proof

open Machine

/-- Settles O45: both operations are `Add8`, with the carry in of each. -/
theorem addAdcResultAndFlags : Obligations.AddAdcResultAndFlags := by
  intro i op x s hi hop hbus
  obtain ⟨t, hexec, ha, hflag, htrace, hframe⟩ := exec_alu_ok hi hbus (aluOut_eq_add8 hop ..)
  have hcp : op ≠ .cp := by rintro rfl; simp at hop
  rw [if_neg hcp] at ha
  have hres : t.a.toNat = _ := (congrArg BitVec.toNat ha).trans (toNat_add8_res ..)
  have hz : t.flag .z = decide (t.a.toNat = 0) := by rw [hflag, ha]; exact beq_zero_eq_decide _
  exact ⟨t, _, hexec, Bool.cond_decide _ 1 0, hres, hz, hflag .n, hflag .h, hflag .c, htrace, hframe⟩

/-- Settles O46: the three operations are `Sub8`, with the carry in of each; CP drops the result. -/
theorem subSbcCpResultAndFlags : Obligations.SubSbcCpResultAndFlags := by
  intro i op x s hi hop hbus
  obtain ⟨t, hexec, ha, hflag, htrace, hframe⟩ := exec_alu_ok hi hbus (aluOut_eq_sub8 hop ..)
  refine ⟨t, _, _, hexec, Bool.cond_decide _ 1 0, toNat_sub8_res .., fun hcp => ?_, fun hcp => ?_, ?_, hflag .n,
    hflag .h, hflag .c, htrace, hframe⟩
  · rw [ha, if_neg hcp]
  · rw [ha, if_pos hcp]
  · calc t.flag .z = decide ((sub8 _ _ _).res.toNat = 0) := (hflag .z).trans (beq_zero_eq_decide _)
      _ = _ := decide_eq_decide.mpr Int.natCast_eq_zero.symm

/-- Settles O47: the result of each operation, with the flags of a logical result. -/
theorem logicResultAndFlags : Obligations.LogicResultAndFlags := by
  intro i op x s hi hop hbus
  obtain ⟨t, hexec, ha, hflag, htrace, hframe⟩ := exec_alu_ok hi hbus (aluOut_eq_logic8 hop ..)
  have hcp : op ≠ .cp := by rintro rfl; simp at hop
  rw [if_neg hcp] at ha
  have hz : t.flag .z = decide (t.a.toNat = 0) := by rw [hflag, ha]; exact beq_zero_eq_decide _
  exact ⟨t, hexec, by rintro rfl; exact ha, by rintro rfl; exact ha, by rintro rfl; exact ha, hz, hflag .n, hflag .h,
    hflag .c, htrace, hframe⟩

/-- Settles O48: INC r and DEC r make no access, so they complete on every bus. -/
theorem incDecRegister : Obligations.IncDecRegister := by
  constructor
  · intro i r s hi
    have hexec : exec i s = .next ((Form.incR r).after s) := by rw [exec_eq_form, hi]; rfl
    have hres : ((Form.incR r).after s).reg8 r = s.reg8 r + 1 := (State.reg8_setReg8 r r _ s).trans (if_pos rfl)
    obtain ⟨hz, hn, hh, hc⟩ := State.flags_setIncFlags (s.reg8 r + 1) (s.setReg8 r (s.reg8 r + 1))
    refine ⟨_, hexec, ?_⟩
    rw [hres]
    exact ⟨toNat_add_one _, hz, hn, hh, hc.trans (State.flag_setReg8 ..), State.setReg8_trace ..,
      (Form.incR r).frame_after s⟩
  · intro i r s hi
    have hexec : exec i s = .next ((Form.decR r).after s) := by rw [exec_eq_form, hi]; rfl
    have hres : ((Form.decR r).after s).reg8 r = s.reg8 r - 1 := (State.reg8_setReg8 r r _ s).trans (if_pos rfl)
    obtain ⟨hz, hn, hh, hc⟩ := State.flags_setDecFlags (s.reg8 r - 1) (s.setReg8 r (s.reg8 r - 1))
    refine ⟨_, hexec, ?_⟩
    rw [hres]
    exact ⟨toNat_sub_one _, hz, hn, hh, hc.trans (State.flag_setReg8 ..), State.setReg8_trace ..,
      (Form.decR r).frame_after s⟩

/-- Settles O49: the write goes where the read went, and the flags are those of the byte written. -/
theorem incDecMemory : Obligations.IncDecMemory := by
  intro s hbus
  constructor
  · obtain ⟨hz, hn, hh, hc⟩ :=
      State.flags_setIncFlags (s.busValue s.hl + 1) ((s.afterRead s.hl).afterWrite s.hl (s.busValue s.hl + 1))
    exact ⟨Form.incAtHL.after s, _, exec_ok hbus rfl nofun, toNat_add_one _, hz, hn, hh, hc,
      List.append_assoc s.trace [_] [_], holdsByte_afterWrite_of_bus_eq (by rfl) s.hl _, Form.incAtHL.frame_after s⟩
  · obtain ⟨hz, hn, hh, hc⟩ :=
      State.flags_setDecFlags (s.busValue s.hl - 1) ((s.afterRead s.hl).afterWrite s.hl (s.busValue s.hl - 1))
    exact ⟨Form.decAtHL.after s, _, exec_ok hbus rfl nofun, toNat_sub_one _, hz, hn, hh, hc,
      List.append_assoc s.trace [_] [_], holdsByte_afterWrite_of_bus_eq (by rfl) s.hl _, Form.decAtHL.frame_after s⟩

end Sys2Proof
end

section
/-! PROOFS (the family 43_alu16.md). 16-bit arithmetic on a pair (R220 to R222): no access is made, so each row completes on
every bus, with the one internal tick. -/

namespace Sys2Proof

open Machine

namespace Machine

/-! ### One pair written after one internal tick -/

/-- What a row does whose operation is one internal tick and the write of one pair, on every bus. -/
theorem exec_internal_setReg16 {i : Instr} {form : Form} {rr : Reg16} {v : Word} {s : State} (hi : i.form = form)
    (hform : form.exec s = .next (s.internal.setReg16 rr v)) :
    ∃ t, exec i s = .next t ∧ t.reg16 rr = v ∧ t.trace = s.trace ++ [.internal] ∧ Frame (regsOfPair rr) [] s t :=
  ⟨_, by rw [exec_eq_form, hi, hform], State.reg16_setReg16_same rr v s.internal, State.setReg16_trace rr v s.internal,
    frame_setReg16 rr v s.internal⟩

/-! ### The step of a pair (R220, R221) -/

theorem toNat_word_add_one (v : Word) : (v + 1).toNat = (v.toNat + 1) % 65536 := BitVec.toNat_add v 1

theorem toNat_word_sub_one (v : Word) : (v - 1).toNat = (v.toNat + 65535) % 65536 := by
  rw [sub_eq_add_neg]
  exact BitVec.toNat_add v (-1)

end Machine

/-- The flags of ADD HL,rr (R222): the three writes of F leave Z as it was. -/
theorem Form.flags_after_addHLRR (rr : Reg16) (s : State) :
    ((Form.addHLRR rr).after s).flag .z = s.flag .z ∧ ((Form.addHLRR rr).after s).flag .n = false ∧
      ((Form.addHLRR rr).after s).flag .h = halfCarry16 s.hl (s.reg16 rr) ∧
      ((Form.addHLRR rr).after s).flag .c = carry16 s.hl (s.reg16 rr) := by
  simp [Form.after]

/-- Settles O50: each row is one internal tick and the write of the stepped pair; F is no part of a pair. -/
theorem incDecPair : Obligations.IncDecPair := by
  constructor
  · intro i rr s hi
    obtain ⟨t, hexec, hpair, htrace, hframe⟩ := exec_internal_setReg16 (v := s.reg16 rr + 1) hi rfl
    exact ⟨t, hexec, by rw [hpair, toNat_word_add_one], htrace, hframe⟩
  · intro i rr s hi
    obtain ⟨t, hexec, hpair, htrace, hframe⟩ := exec_internal_setReg16 (v := s.reg16 rr - 1) hi rfl
    exact ⟨t, hexec, by rw [hpair, toNat_word_sub_one], htrace, hframe⟩

/-- Settles O51: the sum and its carries are of HL and the pair as they were before the write, so ADD HL,HL is no case of
its own. -/
theorem addHLPairResultAndFlags : Obligations.AddHLPairResultAndFlags := by
  intro i rr s hi
  have hexec : exec i s = .next ((Form.addHLRR rr).after s) := by rw [exec_eq_form, hi]; rfl
  have hhl : ((Form.addHLRR rr).after s).hl = s.hl + s.reg16 rr := State.hl_setHL _ s.internal
  obtain ⟨hz, hn, hh, hc⟩ := Form.flags_after_addHLRR rr s
  exact ⟨_, hexec, by rw [hhl, BitVec.toNat_add], hz, hn, hh, hc, by simp [Form.after], (Form.addHLRR rr).frame_after s⟩

end Sys2Proof
end

section
/-! PROOFS (the family 44_rotate_shift_bit.md). What rotates, shifts and bit operations are made of, said once: a byte put
together from two parts, one bit of a byte (R243 to R245), a target written back (R234). -/

namespace Sys2Proof

open Machine

namespace Machine

/-! ### Rotates and shifts as numbers (R230 to R242)

Every rotate and shift but SWAP is that of RL or of RR, with a bit of its own in the place of the carry: the ejected bit,
the sign, or zero. -/

/-- Two parts that share no bit make the sum of their numbers. -/
theorem toNat_or_of_lt_two_pow {high low : Byte} {i a b : Nat} (hhigh : high.toNat = 2 ^ i * a) (hlow : low.toNat = b)
    (hb : b < 2 ^ i) : (high ||| low).toNat = 2 ^ i * a + b := by
  rw [BitVec.toNat_or, hhigh, hlow, Nat.two_pow_add_eq_or_of_lt hb]

theorem toNat_bitByte (b : Bool) : (bitByte b).toNat = b.toNat := by cases b <;> rfl

theorem toNat_bitByte_shiftLeft_seven (b : Bool) : (bitByte b <<< 7).toNat = 2 ^ 7 * b.toNat := by cases b <;> rfl

/-- Bit 7 as a number. -/
theorem toNat_getLsbD_seven (v : Byte) : (v.getLsbD 7).toNat = v.toNat / 128 := by
  have hv := v.isLt
  rw [BitVec.getLsbD, Nat.toNat_testBit]
  omega

/-- Bit 0 as a number. -/
theorem toNat_getLsbD_zero (v : Byte) : (v.getLsbD 0).toNat = v.toNat % 2 := by
  rw [BitVec.getLsbD, Nat.toNat_testBit, pow_zero, Nat.div_one]

theorem eq_decide_toNat_eq_one (b : Bool) : b = decide (b.toNat = 1) := by cases b <;> rfl

/-- RL (R237): a bit comes in at the bottom, bit 7 goes out. -/
theorem toNat_rotOut_rl (v : Byte) {b : Bool} {n : Nat} (hb : b.toNat = n) :
    (rotOut .rl v b).1.toNat = (2 * v.toNat + n) % 256 ∧ (rotOut .rl v b).2 = decide (v.toNat / 128 = 1) := by
  have hv := v.isLt
  have hhigh : (v <<< 1).toNat = 2 ^ 1 * (v.toNat % 128) := by
    rw [BitVec.toNat_shiftLeft, Nat.shiftLeft_eq]
    omega
  refine ⟨?_, toNat_getLsbD_seven v ▸ eq_decide_toNat_eq_one _⟩
  calc (rotOut .rl v b).1.toNat = 2 ^ 1 * (v.toNat % 128) + b.toNat :=
        toNat_or_of_lt_two_pow hhigh (toNat_bitByte b) b.toNat_lt
    _ = _ := by have := b.toNat_lt; omega

/-- RR (R238): a bit comes in at the top, bit 0 goes out. -/
theorem toNat_rotOut_rr (v : Byte) {b : Bool} {n : Nat} (hb : b.toNat = n) :
    (rotOut .rr v b).1.toNat = v.toNat / 2 + 128 * n ∧ (rotOut .rr v b).2 = decide (v.toNat % 2 = 1) := by
  have hv := v.isLt
  have hshift : (v >>> 1).toNat = v.toNat / 2 := Nat.shiftRight_eq_div_pow v.toNat 1
  refine ⟨?_, toNat_getLsbD_zero v ▸ eq_decide_toNat_eq_one _⟩
  calc (rotOut .rr v b).1.toNat = (bitByte b <<< 7 ||| v >>> 1).toNat := congrArg BitVec.toNat (BitVec.or_comm _ _)
    _ = 2 ^ 7 * b.toNat + v.toNat / 2 := toNat_or_of_lt_two_pow (toNat_bitByte_shiftLeft_seven b) hshift (by omega)
    _ = _ := by omega

/-- SRA (R240) brings the sign in at the top, where it stood. -/
theorem rotOut_sra_eq_rr (v : Byte) (cin : Bool) : rotOut .sra v cin = rotOut .rr v (v.getLsbD 7) := by
  have hsign : v &&& (0x80 : Byte) = bitByte (v.getLsbD 7) <<< 7 := by
    calc v &&& (0x80 : Byte) = if v.getLsbD 7 then BitVec.twoPow 8 7 else 0 := BitVec.and_twoPow v 7
      _ = _ := by cases v.getLsbD 7 <;> rfl
  rw [rotOut, rotOut, hsign]

/-- SRL (R242) brings a zero in at the top. -/
theorem rotOut_srl_eq_rr (v : Byte) (cin : Bool) : rotOut .srl v cin = rotOut .rr v false := by
  simp [rotOut, bitByte]

/-- SLA (R239) brings a zero in at the bottom. -/
theorem rotOut_sla_eq_rl (v : Byte) (cin : Bool) : rotOut .sla v cin = rotOut .rl v false := by
  simp [rotOut, bitByte]

/-- SWAP (R241): the nibbles change places. -/
theorem toNat_rotOut_swap (v : Byte) (cin : Bool) :
    (rotOut .swap v cin).1.toNat = 16 * (v.toNat % 16) + v.toNat / 16 ∧ (rotOut .swap v cin).2 = false := by
  have hv := v.isLt
  have hhigh : ((v &&& 0x0F) <<< 4).toNat = 2 ^ 4 * (v.toNat % 16) := by
    have hnibble : (v &&& 0x0F).toNat = v.toNat % 16 := Nat.and_two_pow_sub_one_eq_mod v.toNat 4
    rw [BitVec.toNat_shiftLeft, hnibble, Nat.shiftLeft_eq]
    omega
  have hshift : (v >>> 4).toNat = v.toNat / 16 := Nat.shiftRight_eq_div_pow v.toNat 4
  exact ⟨toNat_or_of_lt_two_pow hhigh hshift (by omega), rfl⟩

/-! ### One bit of a byte (R243 to R245) -/

/-- Z of BIT (R243): the bit is 0 when the digit of the number is. -/
theorem not_getLsbD_eq_decide (v : Byte) (n : Nat) : (!v.getLsbD n) = decide (v.toNat / 2 ^ n % 2 = 0) := by
  rw [BitVec.getLsbD, Nat.testBit_eq_decide_div_mod_eq, ← decide_not, decide_eq_decide, ← ne_eq, Nat.mod_two_ne_one]

theorem getLsbD_bitMask (n : Fin 8) (k : Nat) : (bitMask n).getLsbD k = decide (k = n.val) := by
  have hmask : bitMask n = BitVec.twoPow 8 n.val := (BitVec.twoPow_eq 8 n.val).symm
  rw [hmask, BitVec.getLsbD_twoPow, decide_eq_true n.isLt, Bool.true_and]
  exact decide_eq_decide.mpr eq_comm

/-- RES (R244) clears bit n and no other. -/
theorem getLsbD_and_not_bitMask (v : Byte) (n : Fin 8) (k : Nat) :
    (v &&& ~~~bitMask n).getLsbD k = if k = n.val then false else v.getLsbD k := by
  have hbyte : (v.getLsbD k && decide (k < 8)) = v.getLsbD k :=
    Bool.and_eq_left_iff_imp.mpr fun hbit => decide_eq_true (BitVec.lt_of_getLsbD hbit)
  rw [BitVec.getLsbD_and, BitVec.getLsbD_not, getLsbD_bitMask, ← Bool.and_assoc, hbyte]
  split <;> simp [*]

/-- SET (R245) sets bit n and no other. -/
theorem getLsbD_or_bitMask (v : Byte) (n : Fin 8) (k : Nat) :
    (v ||| bitMask n).getLsbD k = if k = n.val then true else v.getLsbD k := by
  rw [BitVec.getLsbD_or, getLsbD_bitMask]
  split <;> simp [*]

/-! ### A target read and written back (R234) -/

theorem State.trace_afterTarget (x : Target8) (s : State) : (s.afterTarget x).trace = s.trace ++ s.targetTicks x := by
  cases x with
  | reg r => exact (List.append_nil _).symm
  | atHL => rfl

theorem writtenBack_afterWriteTarget (x : Target8) (res : Byte) (s : State) :
    WrittenBack x res s ((s.afterTarget x).afterWriteTarget x res) := by
  cases x with
  | reg r => exact ⟨(State.reg8_setReg8 r r res s).trans (if_pos rfl), State.setReg8_trace r res s⟩
  | atHL => exact ⟨List.append_assoc s.trace [_] [_], holdsByte_afterWrite_of_bus_eq (by rfl) s.hl res⟩

/-- A write of the flags touches no target. -/
theorem writtenBack_setFlags {x : Target8} {res : Byte} {s t : State} (hback : WrittenBack x res s t) (z n h c : Bool) :
    WrittenBack x res s (t.setFlags z n h c) := by
  cases x <;> exact hback

end Machine

end Sys2Proof
end

section
/-! PROOFS (the family 44_rotate_shift_bit.md). Rotates, shifts and bit operations (R230 to R245): each completes in the
`after` of its form, within the form's frame. -/

namespace Sys2Proof

open Machine

/-- The flags after a rotate on A (R230 to R233). -/
theorem Form.flags_after_rotA (op : AccRotOp) (s : State) :
    ((Form.rotA op).after s).flag .z = false ∧ ((Form.rotA op).after s).flag .n = false ∧
      ((Form.rotA op).after s).flag .h = false ∧
      ((Form.rotA op).after s).flag .c = (accRotOut op s.a (s.flag .c)).2 := by
  simp [Form.after]

/-- The flags after a rotate or shift of a target (R235 to R242). -/
theorem Form.flags_after_rot (op : RotOp) (x : Target8) (s : State) :
    ((Form.rot op x).after s).flag .z = decide ((rotOut op (s.targetValue x) (s.flag .c)).1.toNat = 0) ∧
      ((Form.rot op x).after s).flag .n = false ∧ ((Form.rot op x).after s).flag .h = false ∧
      ((Form.rot op x).after s).flag .c = (rotOut op (s.targetValue x) (s.flag .c)).2 :=
  ⟨(State.flag_setFlags .z ..).trans (beq_zero_eq_decide _), State.flag_setFlags .n .., State.flag_setFlags .h ..,
    State.flag_setFlags .c ..⟩

/-- The flags after BIT (R243): C as it was. -/
theorem Form.flags_after_bit (n : Fin 8) (x : Target8) (s : State) :
    ((Form.bit n x).after s).flag .z = decide ((s.targetValue x).toNat / 2 ^ n.val % 2 = 0) ∧
      ((Form.bit n x).after s).flag .n = false ∧ ((Form.bit n x).after s).flag .h = true ∧
      ((Form.bit n x).after s).flag .c = s.flag .c := by
  simp [Form.after, ← not_getLsbD_eq_decide]

/-- Settles O52: RLCA and RLA compute as RL, RRCA and RRA as RR, the first of each with the ejected bit coming in; they
make no access, so they complete on every bus. -/
theorem accRotatesResultAndFlags : Obligations.AccRotatesResultAndFlags := by
  intro i op s hi
  have hexec : exec i s = .next ((Form.rotA op).after s) := by rw [exec_eq_form, hi]; rfl
  obtain ⟨hz, hn, hh, hc⟩ := Form.flags_after_rotA op s
  refine ⟨_, _, (s.flag .c).toNat, hexec, rfl, Bool.cond_eq_ite .., ?_, ?_, ?_, ?_, hz, hn, hh, rfl,
    (Form.rotA op).frame_after s⟩
  all_goals rintro rfl; rw [hc]
  · exact toNat_rotOut_rl s.a (toNat_getLsbD_seven s.a)
  · exact toNat_rotOut_rr s.a (toNat_getLsbD_zero s.a)
  · exact toNat_rotOut_rl s.a rfl
  · exact toNat_rotOut_rr s.a rfl

/-- Settles O53: each operation is RL or RR with its own bit coming in (RLC and RRC: the ejected one), or SWAP. -/
theorem cbRotatesResultAndFlags : Obligations.CbRotatesResultAndFlags := by
  intro i op x s hi hbus
  obtain ⟨hz, hn, hh, hc⟩ := Form.flags_after_rot op x s
  refine ⟨_, _, (s.flag .c).toNat, _, exec_ok hbus hi nofun, rfl, Bool.cond_eq_ite .., ?_, ?_, ?_, ?_, ?_, ?_, ?_, ?_,
    hz, hn, hh, writtenBack_setFlags (writtenBack_afterWriteTarget x _ s) .., (Form.rot op x).frame_after s⟩
  all_goals rintro rfl; rw [hc]
  · exact toNat_rotOut_rl _ (toNat_getLsbD_seven _)
  · exact toNat_rotOut_rr _ (toNat_getLsbD_zero _)
  · exact toNat_rotOut_rl _ rfl
  · exact toNat_rotOut_rr _ rfl
  · rw [rotOut_sla_eq_rl]; exact toNat_rotOut_rl _ rfl
  · rw [rotOut_sra_eq_rr]; exact toNat_rotOut_rr _ (toNat_getLsbD_seven _)
  · exact toNat_rotOut_swap _ _
  · rw [rotOut_srl_eq_rr]; exact toNat_rotOut_rr _ rfl

/-- Settles O54: the read of the target ticks, and F alone is written. -/
theorem bitTestsAndWritesNothing : Obligations.BitTestsAndWritesNothing := by
  intro i n x s hi hbus
  obtain ⟨hz, hn, hh, hc⟩ := Form.flags_after_bit n x s
  exact ⟨_, exec_ok hbus hi nofun, hz, hn, hh, hc, State.trace_afterTarget x s, (Form.bit n x).frame_after s⟩

/-- Settles O55: the mask with one bit, taken out or put in, and the byte written back. -/
theorem resSetChangeOneBit : Obligations.ResSetChangeOneBit :=
  ⟨fun _ n x s hi hbus => ⟨_, _, exec_ok hbus hi nofun, getLsbD_and_not_bitMask (s.targetValue x) n,
    writtenBack_afterWriteTarget x _ s, (Form.res n x).frame_after s⟩,
  fun _ n x s hi hbus => ⟨_, _, exec_ok hbus hi nofun, getLsbD_or_bitMask (s.targetValue x) n,
    writtenBack_afterWriteTarget x _ s, (Form.set n x).frame_after s⟩⟩

end Sys2Proof
end

section
/-! PROOFS (the family 45_control.md). Control flow (R260 to R271): what each operation does to PC and the stack, said once;
a conditional row is, by its test, the unconditional operation or nothing. -/

namespace Sys2Proof

open Machine

namespace Machine

/-! ### A row with a condition (R260) -/

section
variable {i : Instr} {form : Form} {cc : Cond} {s : State} {yes no : Result} (hi : i.form = form)
  (hform : form.exec s = if s.cond cc then yes else no)
include hi hform

theorem exec_of_cond_true (hcond : s.cond cc = true) : exec i s = yes := by
  rw [exec_eq_form, hi, hform, if_pos hcond]

theorem exec_of_cond_false (hcond : s.cond cc = false) : exec i s = no := by
  rw [exec_eq_form, hi, hform, if_neg (ne_true_of_eq_false hcond)]

end

/-! ### The operations -/

/-- A relative jump (R261) makes no access, so it completes on every bus. -/
theorem jumpRelative_sets_pc (e : Byte) (s : State) :
    ∃ t, jumpRelative e s = .next t ∧ (t.pc.toNat : Int) = ((s.pc.toNat : Int) + e.toInt) % 65536 ∧
      t.trace = s.trace ++ [.internal] ∧ Frame [.pc] [] s t :=
  ⟨_, rfl, toNat_add_sext16 s.pc e, rfl, (Form.jr e).frame_after s⟩

/-- An absolute jump (R263) makes no access, so it completes on every bus. -/
theorem jumpTo_sets_pc (nn : Word) (s : State) :
    ∃ t, jumpTo nn s = .next t ∧ t.pc = nn ∧ t.trace = s.trace ++ [.internal] ∧ Frame [.pc] [] s t :=
  ⟨_, rfl, rfl, rfl, (Form.jp nn).frame_after s⟩

/-- A call (R266, R271): the internal tick, the push of PC, the jump. -/
theorem callTo_pushes_pc {s : State} (hbus : s.busMayFault = false) (nn : Word) :
    ∃ t, callTo nn s = .next t ∧ t.pc = nn ∧ ReturnAddressPushed s t ∧
      Frame [.sp, .pc] [s.sp - 1, s.sp - 2] s t := by
  have hpushed : ReturnAddressPushed s ((s.internal.afterPush s.pc).setPC nn) :=
    ⟨State.sp_afterPush s.pc s.internal, by simp, holdsByte_high_afterPush s.pc s.internal,
      holdsByte_low_afterPush s.pc s.internal⟩
  exact ⟨_, callTo_ok hbus nn, rfl, hpushed, (Form.call nn).frame_after s⟩

/-- A return (R268, R270): the pop, the internal tick, the jump. -/
theorem returnFromCall_pops_pc {s : State} (hbus : s.busMayFault = false) :
    ∃ t, returnFromCall s = .next t ∧ ReturnAddressPopped s t ∧ Frame [.sp, .pc] [] s t := by
  have hpopped : ReturnAddressPopped s (s.afterPop.internal.setPC s.popValue) :=
    ⟨rfl, State.sp_afterPop s, by simp⟩
  exact ⟨_, returnFromCall_ok hbus, hpopped, Form.ret.frame_after s⟩

/-- A frame from after an internal tick is one from before it: the tick writes no register and no byte. -/
theorem frame_of_frame_internal {ws : List Register} {vs : List Word} {s t : State} (h : Frame ws vs s.internal t) :
    Frame ws vs s t := h

/-- The restart targets (R106) are below 2^16. -/
theorem toNat_restartTarget (y : Fin 8) : (restartTarget y).toNat = 8 * y.val := by
  have hy := y.isLt
  rw [restartTarget, BitVec.toNat_ofNat]
  omega

end Machine

/-- Settles O56: a conditional jump is the jump if its test holds, and nothing otherwise. -/
theorem jumpsSetPC : Obligations.JumpsSetPC := by
  refine ⟨fun _ => ⟨rfl, rfl, rfl, rfl⟩, jumpRelative_sets_pc, fun i cc e s hi => ⟨fun hcond => ?_, ?_⟩, jumpTo_sets_pc,
    fun i cc nn s hi => ⟨fun hcond => ?_, ?_⟩, fun s => ⟨_, rfl, rfl, rfl, Form.jpHL.frame_after s⟩⟩
  · rw [exec_of_cond_true hi rfl hcond]
    exact jumpRelative_sets_pc e s
  · exact exec_of_cond_false hi rfl
  · rw [exec_of_cond_true hi rfl hcond]
    exact jumpTo_sets_pc nn s
  · exact exec_of_cond_false hi rfl

/-- Settles O57: a conditional call is the call if its test holds, and nothing otherwise; a restart is the call of its
target. -/
theorem callsPushReturnAddress : Obligations.CallsPushReturnAddress := by
  refine ⟨fun nn s hbus => callTo_pushes_pc hbus nn, fun i cc nn s hi => ⟨fun hcond hbus => ?_, ?_⟩,
    fun i y s hi hbus => ?_⟩
  · rw [exec_of_cond_true hi rfl hcond]
    exact callTo_pushes_pc hbus nn
  · exact exec_of_cond_false hi rfl
  · rw [exec_eq_form, hi]
    obtain ⟨t, hcall, hpc, hpushed, hframe⟩ := callTo_pushes_pc hbus (restartTarget y)
    exact ⟨t, hcall, by rw [hpc, toNat_restartTarget], hpushed, hframe⟩

/-- Settles O58: RET cc ticks once, and is from there the return if its test holds, and nothing otherwise. -/
theorem returnsPopPC : Obligations.ReturnsPopPC := by
  refine ⟨fun i s hi hbus => ?_, fun i cc s hi => ⟨fun hcond hbus => ?_, fun hcond => ?_⟩⟩
  · have hexec : exec i s = returnFromCall s := by
      rw [exec_eq_form]
      obtain hi | hi := hi <;> rw [hi] <;> rfl
    rw [hexec]
    exact returnFromCall_pops_pc hbus
  · rw [exec_of_cond_true hi rfl hcond]
    obtain ⟨t, hret, hpopped, hframe⟩ := returnFromCall_pops_pc (s := s.internal) hbus
    exact ⟨t, hret, hpopped, frame_of_frame_internal hframe⟩
  · exact ⟨s.internal, exec_of_cond_false hi rfl hcond, rfl, frame_internal s⟩

end Sys2Proof
end

section
/-! PROOFS (the family 46_misc.md). Miscellaneous instructions (R280 to R288): none makes an access, so each completes on
every bus in the `after` of its form; DAA's adjust is said once as numbers. -/

namespace Sys2Proof

open Machine

namespace Machine

/-! ### DAA's two adjusts (R281) -/

/-- The low adjust: 6 when H, or after an addition when the low nibble is no decimal digit. -/
def daaLow (a : Byte) (n h : Bool) : Nat := if h = true ∨ n = false ∧ a.toNat % 16 > 9 then 0x06 else 0

/-- The high adjust: 0x60 when C, or after an addition when A is above 0x99. -/
def daaHigh (a : Byte) (n c : Bool) : Nat := if c = true ∨ n = false ∧ a.toNat > 0x99 then 0x60 else 0

/-- The two adjusts share no bit, so together they are their sum. -/
theorem toNat_adjust (low high : Prop) [Decidable low] [Decidable high] :
    ((if low then 0x06#8 else 0x00#8) ||| (if high then 0x60#8 else 0x00#8)).toNat =
      (if low then 0x06 else 0) + (if high then 0x60 else 0) := by
  by_cases hlow : low <;> by_cases hhigh : high <;> simp [hlow, hhigh]

/-- After an addition both adjusts are added, whatever the two tests of A say. -/
theorem toNat_daaOut_add (a : Byte) (h c : Bool) :
    (daaOut a false h c).1.toNat = (a.toNat + daaLow a false h + daaHigh a false c) % 256 := by
  simp [daaOut, daaLow, daaHigh, toNat_adjust, add_assoc, -BitVec.toNat_or]

/-- After a subtraction both adjusts are subtracted, and A is not tested. -/
theorem toNat_daaOut_sub (a : Byte) (h c : Bool) :
    (daaOut a true h c).1.toNat = (a.toNat + 256 - daaLow a true h - daaHigh a true c) % 256 := by
  have hsub : (daaOut a true h c).1.toNat = (256 - (daaLow a true h + daaHigh a true c) + a.toNat) % 256 := by
    simp [daaOut, daaLow, daaHigh, toNat_adjust, BitVec.toNat_sub, -BitVec.toNat_or]
  have hle : daaLow a true h + daaHigh a true c ≤ 256 := by cases h <;> cases c <;> simp [daaLow, daaHigh]
  omega

/-- C says whether the high adjust was made. -/
theorem daaOut_carry (a : Byte) (n h c : Bool) : (daaOut a n h c).2 = decide (daaHigh a n c = 0x60) := by
  cases n <;> simp [daaOut, daaHigh]

/-! ### HALT and STOP -/

/-- What two internal ticks do (R287, R288). -/
theorem twoInternal_ticks (s : State) :
    ∃ t, twoInternal s = .next t ∧ t.trace = s.trace ++ [.internal, .internal] ∧ t.mem = s.mem ∧ Frame [] [] s t :=
  ⟨s.internal.internal, rfl, by simp, rfl, frame_of_frame_internal (frame_internal s.internal)⟩

end Machine

/-! ### The flags (R281 to R284) -/

/-- The flags after DAA (R281): N as it was. -/
theorem Form.flags_after_daa (s : State) :
    (Form.daa.after s).flag .z = decide ((Form.daa.after s).a.toNat = 0) ∧ (Form.daa.after s).flag .n = s.flag .n ∧
      (Form.daa.after s).flag .h = false ∧
      (Form.daa.after s).flag .c = decide (daaHigh s.a (s.flag .n) (s.flag .c) = 0x60) := by
  have hz : (Form.daa.after s).flag .z = decide ((Form.daa.after s).a.toNat = 0) := by
    simpa [Form.after] using beq_zero_eq_decide _
  exact ⟨hz, by simp [Form.after, daaOut_carry]⟩

/-- The flags after CPL (R282): Z and C as they were. -/
theorem Form.flags_after_cpl (s : State) :
    (Form.cpl.after s).flag .z = s.flag .z ∧ (Form.cpl.after s).flag .n = true ∧
      (Form.cpl.after s).flag .h = true ∧ (Form.cpl.after s).flag .c = s.flag .c := by
  simp [Form.after]

/-- The flags after SCF (R283): Z as it was. -/
theorem Form.flags_after_scf (s : State) :
    (Form.scf.after s).flag .z = s.flag .z ∧ (Form.scf.after s).flag .n = false ∧
      (Form.scf.after s).flag .h = false ∧ (Form.scf.after s).flag .c = true := by
  simp [Form.after]

/-- The flags after CCF (R284): Z as it was. -/
theorem Form.flags_after_ccf (s : State) :
    (Form.ccf.after s).flag .z = s.flag .z ∧ (Form.ccf.after s).flag .n = false ∧
      (Form.ccf.after s).flag .h = false ∧ (Form.ccf.after s).flag .c = !s.flag .c := by
  simp [Form.after]

/-- Settles O59: A is adjusted by the sum or the difference of the two adjusts, by the N it started with. -/
theorem daaAdjustsDecimal : Obligations.DaaAdjustsDecimal := by
  intro s
  have ha : (Form.daa.after s).a = (daaOut s.a (s.flag .n) (s.flag .h) (s.flag .c)).1 := rfl
  obtain ⟨hz, hn, hh, hc⟩ := Form.flags_after_daa s
  refine ⟨Form.daa.after s, daaLow s.a (s.flag .n) (s.flag .h), daaHigh s.a (s.flag .n) (s.flag .c), rfl, rfl, rfl,
    fun hadd => ?_, fun hsub => ?_, hz, hn, hh, hc, rfl, Form.daa.frame_after s⟩
  · rw [ha, hadd, toNat_daaOut_add]
  · rw [ha, hsub, toNat_daaOut_sub]

/-- Settles O60: HALT and STOP are one operation, two internal ticks; the rest make no tick. -/
theorem miscellaneousEffects : Obligations.MiscellaneousEffects := by
  intro s
  obtain ⟨hz, hn, hh, hc⟩ := Form.flags_after_cpl s
  have hcpl : (Form.cpl.after s).a.toNat = 255 - s.a.toNat := BitVec.toNat_not
  obtain ⟨hscfz, hscfn, hscfh, hscfc⟩ := Form.flags_after_scf s
  obtain ⟨hccfz, hccfn, hccfh, hccfc⟩ := Form.flags_after_ccf s
  exact ⟨rfl, rfl, rfl, twoInternal_ticks s, twoInternal_ticks s,
    ⟨_, rfl, hcpl, hz, hn, hh, hc, rfl, Form.cpl.frame_after s⟩,
    ⟨_, rfl, hscfz, hscfn, hscfh, hscfc, rfl, Form.scf.frame_after s⟩,
    ⟨_, rfl, hccfz, hccfn, hccfh, hccfc, rfl, Form.ccf.frame_after s⟩⟩

end Sys2Proof
end

section
/-! PROOFS (the family 60_exceptions.md). The illegal bytes (R109, R300), and the errors a step can end with: no refusal
(R302), and every error leaves a legal state with one more error recorded (R301, R303, D3). -/

namespace Sys2Proof

open Machine

/-! ### The illegal rows -/

/-- Settles O18: the meaning of an illegal row's form is to raise the error with its byte. -/
theorem illegalInstructionRaisesError : Obligations.IllegalInstructionRaisesError := by
  intro i b s hform
  rw [exec_eq_form, hform]
  rfl

/-- Each of the eleven bytes is the encoding of its own illegal row. -/
theorem exists_illegal_of_illegalByte {b : Byte} (h : b ∈ illegalBytes) :
    ∃ i : Instr, i.form = .illegal b ∧ encode i = [b] := by
  obtain ⟨i, hwf, hencode⟩ := exists_not_wf_of_illegalByte h
  obtain ⟨b', -, hform⟩ := form_of_not_wf hwf
  obtain rfl : b' = b := by simpa [encode, hform, Form.bytes] using hencode
  exact ⟨i, hform, hencode⟩

/-- Settles O19: the byte by itself decodes to its illegal row, so the step is one FetchByte and then the error. -/
theorem illegalOpcodeEndsStep : Obligations.IllegalOpcodeEndsStep := by
  rintro s b hreset hbus rfl hb
  obtain ⟨i, hform, hencode⟩ := exists_illegal_of_illegalByte hb
  have hdecode : decode [s.busValue s.pc] = .ok (i, []) := by simpa [hencode] using decodeOfEncodeIsTheInstruction i []
  have hlength : i.length = 1 := by rw [Instr.length, hencode]; rfl
  have hfetch : decode (s.beginStep.fetchedBytes (opLength (s.busValue s.pc))) = .ok (i, []) := by
    rw [← length_of_decode hdecode, hlength]; exact hdecode
  have hstep := stepRunsDecodedInstruction s i [] hreset hbus hfetch
  rw [hlength, illegalInstructionRaisesError i _ _ hform] at hstep
  obtain ⟨hregisters, -, -⟩ := frame_afterFetch 1 s.beginStep
  exact ⟨_, hstep, rfl, hregisters, rfl, rfl, rfl, rfl, rfl, hreset⟩

namespace Machine

/-! ### What an answer can be -/

/-- The answer of an operation run from `s` is no refusal; if it is a fault, the state left has one more error recorded
than `s`, and is legal if `s` is. -/
inductive NextOrLegalFault (s : State) : Result → Prop
  | next (t : State) : NextOrLegalFault s (.next t)
  | fault {r : Fault} {t : State} {e : ErrorKind} (hleft : r.stateLeft = some t) (herrors : t.errors = e :: s.errors)
      (hlegal : s.Legal → t.Legal) : NextOrLegalFault s (.fault r)

theorem NextOrLegalFault.ne_refused {s : State} {r : Result} (h : NextOrLegalFault s r) (why : Refusal) :
    r ≠ .refused why := by
  rintro rfl
  cases h

/-- What runs on from a state with the same errors, as legal as `s`, answers as from `s`. -/
theorem NextOrLegalFault.of_errors_eq {s t : State} {r : Result} (h : NextOrLegalFault t r)
    (herrors : t.errors = s.errors) (hlegal : s.Legal → t.Legal) : NextOrLegalFault s r := by
  cases h with
  | next u => exact .next u
  | fault hleft herrors' hlegal' => exact .fault hleft (herrors ▸ herrors') (hlegal' ∘ hlegal)

/-- A bus error draws F through its mask (R22, R303) and leaves the flat RAM as it was. -/
theorem State.legal_afterBusError {s : State} (h : s.Legal) (q : BusRequest) (info : Nat) :
    (s.afterBusError q info).Legal := by
  obtain ⟨-, hmem, hreset⟩ := h
  exact ⟨lowNibble_masked _, hmem, hreset⟩

theorem nextOrLegalFault_busError (q : BusRequest) (info : Nat) (s : State) :
    NextOrLegalFault s (.fault (.busError info (s.afterBusError q info))) :=
  .fault rfl rfl fun h => State.legal_afterBusError h q info

theorem nextOrLegalFault_raiseIllegalOpcode (b : Byte) (s : State) : NextOrLegalFault s (raiseIllegalOpcode b s) :=
  .fault rfl rfl id

/-! ### Accesses and what is made of them: the rest of the instruction answers well from every state -/

section
variable {s : State} {k : Byte → State → Result} {q : State → Result}

theorem nextOrLegalFault_memRead (addr : Word) (hk : ∀ v t, NextOrLegalFault t (k v t)) :
    NextOrLegalFault s (memRead addr s k) := by
  obtain ⟨info, -, hfault⟩ | ⟨-, hread⟩ := memRead_cases addr s k
  · rw [hfault]
    exact nextOrLegalFault_busError _ info s
  · rw [hread]
    exact (hk _ _).of_errors_eq rfl (State.legal_afterRead addr s).mpr

theorem nextOrLegalFault_memWrite (addr : Word) (v : Byte) (hq : ∀ t, NextOrLegalFault t (q t)) :
    NextOrLegalFault s (memWrite addr v s q) := by
  obtain ⟨info, -, hfault⟩ | ⟨-, hwrite⟩ := memWrite_cases addr v s q
  · rw [hfault]
    exact nextOrLegalFault_busError _ info s
  · rw [hwrite]
    exact (hq _).of_errors_eq rfl fun h => State.legal_afterWrite h addr v

theorem nextOrLegalFault_push16 (v : Word) (hq : ∀ t, NextOrLegalFault t (q t)) :
    NextOrLegalFault s (push16 v s q) := by
  have hlow (t : State) : NextOrLegalFault t (memWrite (t.sp - 1) (loByte v) (t.setSP (t.sp - 1)) q) :=
    (nextOrLegalFault_memWrite _ _ hq).of_errors_eq rfl (State.legal_setSP _ t).mpr
  exact (nextOrLegalFault_memWrite _ _ hlow).of_errors_eq rfl (State.legal_setSP _ s).mpr

theorem nextOrLegalFault_pop16 {w : Word → State → Result} (hw : ∀ v t, NextOrLegalFault t (w v t)) :
    NextOrLegalFault s (pop16 s w) := by
  have hlast (v : Word) (t : State) : NextOrLegalFault t (w v (t.setSP (t.sp + 1))) :=
    (hw _ _).of_errors_eq rfl (State.legal_setSP _ t).mpr
  have hhigh (lo : Byte) (t : State) : NextOrLegalFault t
      (memRead (t.sp + 1) (t.setSP (t.sp + 1)) fun hi u => w (wordOf hi lo) (u.setSP (u.sp + 1))) :=
    (nextOrLegalFault_memRead _ fun _ => hlast _).of_errors_eq rfl (State.legal_setSP _ t).mpr
  exact nextOrLegalFault_memRead _ hhigh

theorem nextOrLegalFault_readSource (x : Source8) (hk : ∀ v t, NextOrLegalFault t (k v t)) :
    NextOrLegalFault s (readSource x s k) := by
  cases x with
  | reg r => exact hk (s.reg8 r) s
  | atHL => exact nextOrLegalFault_memRead s.hl hk
  | imm n => exact hk n s

theorem nextOrLegalFault_readTarget (x : Target8) (hk : ∀ v t, NextOrLegalFault t (k v t)) :
    NextOrLegalFault s (readTarget x s k) := by
  cases x with
  | reg r => exact hk (s.reg8 r) s
  | atHL => exact nextOrLegalFault_memRead s.hl hk

theorem nextOrLegalFault_writeTarget (x : Target8) (v : Byte) (hq : ∀ t, NextOrLegalFault t (q t)) :
    NextOrLegalFault s (writeTarget x v s q) := by
  cases x with
  | reg r => exact (hq _).of_errors_eq (State.setReg8_errors r v s) (State.legal_setReg8 r v s).mpr
  | atHL => exact nextOrLegalFault_memWrite s.hl v hq

/-- An internal tick changes neither the errors nor legality. -/
theorem nextOrLegalFault_of_internal {r : Result} (h : NextOrLegalFault s.internal r) : NextOrLegalFault s r :=
  h.of_errors_eq rfl (State.legal_internal s).mpr

/-- A conditional operation does nothing if its test fails. -/
theorem nextOrLegalFault_ite {c : Prop} [Decidable c] {yes : Result} (hyes : NextOrLegalFault s yes) (u : State) :
    NextOrLegalFault s (if c then yes else .next u) := by
  split
  · exact hyes
  · exact .next u

end

/-! ### Operations of several forms -/

theorem nextOrLegalFault_loadRegAt (dst : Reg8) (addr : Word) (s : State) : NextOrLegalFault s (loadRegAt dst addr s) :=
  nextOrLegalFault_memRead addr fun _ _ => .next _

theorem nextOrLegalFault_loadAStepHL (delta : Word) (s : State) : NextOrLegalFault s (loadAStepHL delta s) :=
  nextOrLegalFault_memRead s.hl fun _ _ => .next _

theorem nextOrLegalFault_storeAt (addr : Word) (v : Byte) (s : State) : NextOrLegalFault s (storeAt addr v s) :=
  nextOrLegalFault_memWrite addr v fun _ => .next _

theorem nextOrLegalFault_storeAStepHL (delta : Word) (s : State) : NextOrLegalFault s (storeAStepHL delta s) :=
  nextOrLegalFault_memWrite s.hl s.a fun _ => .next _

theorem nextOrLegalFault_aluA (op : AluOp) (x : Source8) (s : State) : NextOrLegalFault s (aluA op x s) :=
  nextOrLegalFault_readSource x fun _ _ => .next _

theorem nextOrLegalFault_compareA (x : Source8) (s : State) : NextOrLegalFault s (compareA x s) :=
  nextOrLegalFault_readSource x fun _ _ => .next _

theorem nextOrLegalFault_callTo (nn : Word) (s : State) : NextOrLegalFault s (callTo nn s) :=
  nextOrLegalFault_of_internal (nextOrLegalFault_push16 s.pc fun _ => .next _)

theorem nextOrLegalFault_returnFromCall (s : State) : NextOrLegalFault s (returnFromCall s) :=
  nextOrLegalFault_pop16 fun _ _ => .next _

end Machine

/-- Every form's meaning answers a next state, or a fault that leaves a legal state. -/
theorem Form.nextOrLegalFault_exec (form : Form) (s : State) : NextOrLegalFault s (form.exec s) := by
  cases form with
  | ldRAtHL | ldAAtBC | ldAAtDE | ldAAtNN | ldhAAtN | ldhAAtC => exact nextOrLegalFault_loadRegAt _ _ s
  | ldAtHLR | ldAtHLN | ldAtBCA | ldAtDEA | ldAtNNA | ldhAtNA | ldhAtCA => exact nextOrLegalFault_storeAt _ _ s
  | ldAAtHLInc | ldAAtHLDec => exact nextOrLegalFault_loadAStepHL _ s
  | ldAtHLIncA | ldAtHLDecA => exact nextOrLegalFault_storeAStepHL _ s
  | ldAtNNSP nn => exact nextOrLegalFault_memWrite nn _ fun _ => nextOrLegalFault_memWrite (nn + 1) _ fun _ => .next _
  | push p => exact nextOrLegalFault_of_internal (nextOrLegalFault_push16 (s.pair p) fun _ => .next _)
  | pop => exact nextOrLegalFault_pop16 fun _ _ => .next _
  | alu op x =>
    cases op with
    | cp => exact nextOrLegalFault_compareA x s
    | _ => exact nextOrLegalFault_aluA _ x s
  | incAtHL | decAtHL =>
    exact nextOrLegalFault_memRead s.hl fun _ _ => nextOrLegalFault_memWrite s.hl _ fun _ => .next _
  | rot _ x | res _ x | set _ x =>
    dsimp only [Form.exec, rotateTarget, resetBit, setBit]
    exact nextOrLegalFault_readTarget x fun _ _ => nextOrLegalFault_writeTarget x _ fun _ => .next _
  | bit _ x =>
    unfold Form.exec testBit
    exact nextOrLegalFault_readTarget x fun _ _ => .next _
  | jrCc | jpCc => exact nextOrLegalFault_ite (.next _) s
  | call | rst => exact nextOrLegalFault_callTo _ s
  | callCc => exact nextOrLegalFault_ite (nextOrLegalFault_callTo _ s) s
  | ret | reti => exact nextOrLegalFault_returnFromCall s
  | retCc =>
    exact nextOrLegalFault_ite (nextOrLegalFault_of_internal (nextOrLegalFault_returnFromCall s.internal)) s.internal
  | illegal b => exact nextOrLegalFault_raiseIllegalOpcode b s
  | _ => exact .next _

namespace Machine

theorem nextOrLegalFault_exec (i : Instr) (s : State) : NextOrLegalFault s (exec i s) :=
  exec_eq_form i s ▸ i.form.nextOrLegalFault_exec s

/-! ### The step -/

theorem nextOrLegalFault_fetchByte {s : State} {k : Byte → State → Result} (hk : ∀ v t, NextOrLegalFault t (k v t)) :
    NextOrLegalFault s (fetchByte s k) :=
  nextOrLegalFault_memRead s.pc fun v t => (hk v _).of_errors_eq rfl (State.legal_setPC (s.pc + 1) t).mpr

/-- Fetching `n` bytes hands on exactly `n` of them. -/
theorem nextOrLegalFault_fetchBytes {n : Nat} {s : State} {k : List Byte → State → Result}
    (hk : ∀ vs t, vs.length = n → NextOrLegalFault t (k vs t)) : NextOrLegalFault s (fetchBytes n s k) := by
  induction n generalizing s k with
  | zero => exact hk [] s rfl
  | succ n ih => exact nextOrLegalFault_fetchByte fun v _ => ih fun vs u hvs => hk (v :: vs) u (congrArg (· + 1) hvs)

/-- The bytes fetched are as many as the first one asks for, so they decode (R112). -/
theorem nextOrLegalFault_fetchInstr {s : State} {k : Instr → State → Result} (hk : ∀ i t, NextOrLegalFault t (k i t)) :
    NextOrLegalFault s (fetchInstr s k) :=
  nextOrLegalFault_fetchByte fun o _ => nextOrLegalFault_fetchBytes fun rest u hrest => by
    obtain ⟨i, _, hdecode⟩ := exists_decode_of_opLength_le (o := o) (bytes := rest) (by omega)
    rw [hdecode]
    exact hk i u

/-- A step of a core that was reset. -/
theorem nextOrLegalFault_step {s : State} (h : s.wasReset = true) : NextOrLegalFault s (step s) := by
  rw [step, if_pos h]
  exact (nextOrLegalFault_fetchInstr nextOrLegalFault_exec).of_errors_eq rfl (State.legal_beginStep s).mpr

end Machine

/-- Settles O20: neither a meaning nor the step of a core that was reset answers a refusal; any other step faults. -/
theorem nothingIsRefused : Obligations.NothingIsRefused := by
  refine ⟨fun i s => (nextOrLegalFault_exec i s).ne_refused, fun s why => ?_⟩
  cases hreset : s.wasReset with
  | true => exact (nextOrLegalFault_step hreset).ne_refused why
  | false => rw [stepBeforeResetFaults.2 s hreset]; exact nofun

/-- Settles O22: a legal state is one of a core that was reset, so its step answers as above. -/
theorem errorLeavesLegalState : Obligations.ErrorLeavesLegalState := by
  intro s t r hs hstep hleft
  have ⟨_, _, hreset⟩ := hs
  have hanswer := nextOrLegalFault_step hreset
  rw [hstep] at hanswer
  cases hanswer with
  | @fault _ u e hleft' herrors hlegal =>
    obtain rfl : u = t := Option.some.inj (hleft'.symm.trans hleft)
    exact ⟨hlegal hs, e, herrors⟩

end Sys2Proof
end

section
/-! PROOFS (the family 70_reset_and_hazards.md). Reset (R330, R332), and the ticks of a whole step (R339, R341): a read
for each byte fetched, and then the ticks of the form's `after`. -/

namespace Sys2Proof

open Machine

/-- Settles O1: reset writes each of its fields once, and no other. -/
theorem resetInstallsSnapshot : Obligations.ResetInstallsSnapshot := fun _ _ =>
  ⟨rfl, rfl, rfl, rfl, rfl, rfl, rfl, rfl, rfl, rfl, rfl, rfl, rfl, rfl, rfl, rfl, rfl, rfl⟩

namespace Machine

/-! ### The letters of a trace (R341) -/

@[simp] theorem Tick.kind_read (addr : Word) (v : Byte) : (Tick.read addr v).kind = .R := rfl

@[simp] theorem Tick.kind_write (addr : Word) (v : Byte) : (Tick.write addr v).kind = .W := rfl

@[simp] theorem Tick.kind_internal : Tick.internal.kind = .I := rfl

/-! ### The fetch -/

/-- Each FetchByte is one read (R104). -/
theorem State.kinds_afterFetch (n : Nat) (s : State) :
    (s.afterFetch n).trace.map Tick.kind = s.trace.map Tick.kind ++ List.replicate n .R := by
  induction n generalizing s with
  | zero => exact (List.append_nil _).symm
  | succ n ih =>
    rw [State.afterFetch, ih, State.fetched_trace, List.map_append, List.append_assoc]
    rfl

/-- Fetching writes no flag, so every test is as before (R260). -/
@[simp] theorem State.cond_afterFetch (cc : Cond) (n : Nat) (s : State) : (s.afterFetch n).cond cc = s.cond cc := by
  induction n generalizing s with
  | zero => rfl
  | succ n ih => exact ih s.fetched

end Machine

theorem Form.taken_afterFetch (form : Form) (n : Nat) (s : State) : form.taken (s.afterFetch n) = form.taken s := by
  cases form with
  | jrCc cc | jpCc cc | callCc cc | retCc cc => exact State.cond_afterFetch cc n s
  | _ => rfl

/-! ### The ticks of the forms -/

@[simp] theorem length_withWord (o : Byte) (nn : Word) : (withWord o nn).length = 3 := rfl

/-- From a trace that holds one read for each byte of the form, its `after` completes the form's row of R341. -/
theorem Form.kinds_after {form : Form} {s : State}
    (hfetches : s.trace.map Tick.kind = List.replicate form.bytes.length .R) :
    (form.after s).trace.map Tick.kind = form.sequence (form.taken s) := by
  cases form with
  | alu op x =>
    have htrace : ((Form.alu op x).after s).trace = s.trace ++ s.sourceTicks x := by
      cases op <;> exact State.trace_afterSource x s
    rw [htrace, List.map_append, hfetches]
    cases x <;> rfl
  | bit n x =>
    have htrace : ((Form.bit n x).after s).trace = s.trace ++ s.targetTicks x := State.trace_afterTarget x s
    rw [htrace, List.map_append, hfetches]
    cases x <;> rfl
  | rot _ x | res _ x | set _ x =>
    cases x <;> simp [Form.after, Form.sequence, State.afterTarget, State.afterWriteTarget, hfetches, Form.bytes]
  | jrCc | jpCc | callCc | retCc =>
    dsimp only [Form.after, Form.sequence, Form.taken]
    split <;> simp [hfetches, Form.bytes]
  | _ => simp [Form.after, Form.sequence, hfetches, Form.bytes]

/-- An instruction that is well-formed is none of the illegal rows (R109). -/
theorem form_ne_illegal_of_wf {i : Instr} (h : i.wf = true) (b : Byte) : i.form ≠ .illegal b := by
  cases i with
  | illegal_D3 | illegal_DB | illegal_DD | illegal_E3 | illegal_E4 | illegal_EB | illegal_EC | illegal_ED | illegal_F4
  | illegal_FC | illegal_FD => cases h
  | _ => exact nofun

/-- Settles O25: the step fetches as many bytes as the form has, and goes on to the form's `after`. -/
theorem stepTicksFollowTimingTable : Obligations.StepTicksFollowTimingTable := by
  intro s i rest hreset hbus hwf hdecode
  have hfetched : (s.beginStep.afterFetch i.length).busMayFault = false := by simpa using hbus
  have hstep : step s = .next (i.form.after (s.beginStep.afterFetch i.length)) :=
    (stepRunsDecodedInstruction s i rest hreset hbus hdecode).trans (exec_ok hfetched rfl (form_ne_illegal_of_wf hwf))
  refine ⟨_, hstep, ?_⟩
  rw [Form.kinds_after (State.kinds_afterFetch i.length s.beginStep), Form.taken_afterFetch]
  rfl

end Sys2Proof
end
